-- ==== Sys2Proof/Word.lean ====
section
/-! DEFINITION. The machine's words: a byte of the output stream or an operation word, a time or interval
register, a speed register, a direction register (00_scope R9). -/

namespace Sys2Proof

/-- An 8-bit value: an operation word (30_encoding R70) or a byte of OUT (10_state R37). -/
abbrev Byte := BitVec 8

/-- A 32-bit register: u32 for times and intervals, s32 (read with `toInt`) for speeds (10_state R22 to R36). -/
abbrev Word := BitVec 32

/-- A u9 direction register, in degrees (10_state R30, R31). -/
abbrev Degrees := BitVec 9

end Sys2Proof
end

