-- ==== Sys2Proof/Syntax.lean ====
section
/-! DEFINITION. The operations of the operation port: one constructor for each row of spec/opcode_table.json,
the two reserved classes among them (30_encoding R70 to R75). -/

namespace Sys2Proof

/-- The LVL bit: the line's level when the edge is handled (30_encoding R70, R76). -/
inductive Level where
  /-- LVL = 0. -/
  | lo
  /-- LVL = 1. -/
  | hi
  deriving DecidableEq, Repr

/-- An operation word, decoded. The time-base sample `now` that comes with it is no part of the word: it is the
sample on the `now` port (30_encoding R71). -/
inductive Instr where
  /-- NOP (46_cycle R203). -/
  | nop
  /-- SPD_EDGE: the speed-line falling edge (40_capture R102). -/
  | spdEdge (lvl : Level)
  /-- DIR_EDGE: the direction-line falling edge (40_capture R104). -/
  | dirEdge (lvl : Level)
  /-- SNAPSHOT (41_snapshot R120). -/
  | snapshot
  /-- CONDITION: one conditioning pass (46_cycle R200). -/
  | condition
  /-- EMIT: append one sentence (45_encoder R186). -/
  | emit
  /-- CYCLE: snapshot, condition, and emit at the rate limit (46_cycle R202). -/
  | cycle
  /-- A word with OPC = 111, whatever its other bits (30_encoding R73; 60_exceptions R220). -/
  | reservedOp (rsv : BitVec 4) (lvl : Level)
  /-- Any other word no operation has (30_encoding R73; 60_exceptions R220). -/
  | reservedBits (rsv : BitVec 4) (lvl : Level) (opc : BitVec 3)
  deriving DecidableEq, Repr

end Sys2Proof
end

