-- ==== Sys2Proof/WellFormed.lean ====
section
/-! DEFINITION. Which terms of `Instr` stand for a word. The seven operations always do; the terms of the
RESERVED_BITS class carry the word's three fields, and only the combinations that 30_encoding R73 sends to
RESERVED_BITS are well formed. -/

namespace Sys2Proof

/-- R73's condition for RESERVED_BITS on a word's fields: OPC is not the reserved opcode 111, and RSV is not
zero or LVL is 1 on an opcode other than SPD_EDGE and DIR_EDGE. -/
def reservedBitsFields (rsv : BitVec 4) (lvl : Level) (opc : BitVec 3) : Bool :=
  decide (opc ≠ 0b111#3) &&
    (decide (rsv ≠ 0#4) || (decide (lvl = .hi) && decide (opc ≠ 0b001#3) && decide (opc ≠ 0b010#3)))

/-- The instruction stands for a word of the operation port (30_encoding R73). -/
def Instr.wf (i : Instr) : Bool :=
  match i with
  | .nop => true
  | .spdEdge _ => true
  | .dirEdge _ => true
  | .snapshot => true
  | .condition => true
  | .emit => true
  | .cycle => true
  | .reservedOp _ _ => true
  | .reservedBits rsv lvl opc => reservedBitsFields rsv lvl opc

end Sys2Proof
end

