-- ==== Sys2Proof/Decode.lean ====
section
/-! DEFINITION. Decoding an operation word, total over all 256 words (30_encoding R73), and the encoder written
from R70, R72 and R78. A word that is no operation decodes to one of the two reserved constructors, which name
the fault reason: no word falls through to a neighbour. -/

namespace Sys2Proof

/-- RSV = op[7:4] (30_encoding R70). -/
def rsvField (w : Byte) : BitVec 4 := w.extractLsb' 4 4

/-- OPC = op[2:0] (30_encoding R70). -/
def opcField (w : Byte) : BitVec 3 := w.extractLsb' 0 3

/-- LVL = op[3] (30_encoding R70). -/
def lvlField (w : Byte) : Level := if w.getLsbD 3 then .hi else .lo

/-- The bit LVL is written as. -/
def Level.bit (l : Level) : BitVec 1 :=
  match l with
  | .lo => 0#1
  | .hi => 1#1

/-- The case table of 30_encoding R73 on a word's three fields: OPC = 111 first, then RSV, then LVL. -/
def decodeFields (rsv : BitVec 4) (lvl : Level) (opc : BitVec 3) : Instr :=
  if opc = 0b111#3 then .reservedOp rsv lvl
  else if rsv ≠ 0b0000#4 then .reservedBits rsv lvl opc
  else if lvl = .hi ∧ opc ≠ 0b001#3 ∧ opc ≠ 0b010#3 then .reservedBits rsv lvl opc
  else if opc = 0b000#3 then .nop
  else if opc = 0b001#3 then .spdEdge lvl
  else if opc = 0b010#3 then .dirEdge lvl
  else if opc = 0b011#3 then .snapshot
  else if opc = 0b100#3 then .condition
  else if opc = 0b101#3 then .emit
  else .cycle

/-- Decode of one operation word (30_encoding R73). -/
def decode (w : Byte) : Instr := decodeFields (rsvField w) (lvlField w) (opcField w)

/-- Why a sequence of bytes holds no operation word. -/
inductive DecodeError where
  /-- No byte is left: there is no word to decode. -/
  | noWord
  deriving DecidableEq, Repr

/-- Decode of the first operation word of a byte sequence, with the bytes after it. Every word is one byte long
(30_encoding R75). -/
def decodeBytes (bytes : List Byte) : Except DecodeError (Instr × List Byte) :=
  match bytes with
  | [] => .error .noWord
  | w :: rest => .ok (decode w, rest)

/-- The word with the given fields: RSV in [7:4], LVL in [3], OPC in [2:0] (30_encoding R70). -/
def opWord (rsv : BitVec 4) (lvl : Level) (opc : BitVec 3) : Byte := rsv ++ lvl.bit ++ opc

/-- The RSV bits an instruction's word has. -/
def Instr.rsvBits (i : Instr) : BitVec 4 :=
  match i with
  | .reservedOp rsv _ => rsv
  | .reservedBits rsv _ _ => rsv
  | .nop => 0b0000#4
  | .spdEdge _ => 0b0000#4
  | .dirEdge _ => 0b0000#4
  | .snapshot => 0b0000#4
  | .condition => 0b0000#4
  | .emit => 0b0000#4
  | .cycle => 0b0000#4

/-- The LVL bit an instruction's word has. -/
def Instr.level (i : Instr) : Level :=
  match i with
  | .spdEdge lvl => lvl
  | .dirEdge lvl => lvl
  | .reservedOp _ lvl => lvl
  | .reservedBits _ lvl _ => lvl
  | .nop => .lo
  | .snapshot => .lo
  | .condition => .lo
  | .emit => .lo
  | .cycle => .lo

/-- The OPC bits an instruction's word has (30_encoding R72). -/
def Instr.opcBits (i : Instr) : BitVec 3 :=
  match i with
  | .nop => 0b000#3
  | .spdEdge _ => 0b001#3
  | .dirEdge _ => 0b010#3
  | .snapshot => 0b011#3
  | .condition => 0b100#3
  | .emit => 0b101#3
  | .cycle => 0b110#3
  | .reservedOp _ _ => 0b111#3
  | .reservedBits _ _ opc => opc

/-- The word of an instruction (30_encoding R70, R72, R78). -/
def encode (i : Instr) : Byte := opWord i.rsvBits i.level i.opcBits

/-- What the decoder reads from a word given as `nbits` bits. Every word is 8 bits (30_encoding R75). DESIGN CHOICE,
log entry 15: fewer than 8 bits are the low bits of a word whose other bits are 0; more than 8 bits, or a number
that does not fit the bits given, have no instruction. -/
def decodeTableWord (nbits w : Nat) : Option Instr :=
  if nbits ≤ 8 ∧ w < 2 ^ nbits then
    match decodeBytes [BitVec.ofNat 8 w] with
    | .ok (i, []) => some i
    | .ok (_, _ :: _) => none
    | .error _ => none
  else none

end Sys2Proof
end

