-- ==== Sys2Proof/Config.lean ====
section
/-! DEFINITION. The configuration record CFG as plain data (10_state R41), the fixed integers beside it, and the
free values of the model: the OPEN parameters of the device and the two values the spec states for no operand
that a run can meet. What makes a record acceptable (10_state R42) is in Machine/ConfigCheck.lean. -/

namespace Sys2Proof

/-- The three calibration segments, numbered as 42_calibration R132 numbers them. -/
inductive Segment where
  | seg0 | seg1 | seg2
  deriving DecidableEq, Repr

/-- The three speed bands, numbered as 43_deviation R151 numbers them. -/
inductive Band where
  | band0 | band1 | band2
  deriving DecidableEq, Repr

/-- The six integers of one segment: CAL_A2[k], CAL_D2[k], CAL_A1[k], CAL_D1[k], CAL_A0[k], CAL_D0[k]
(10_state R41; 42_calibration R131). -/
structure SegmentCoeffs where
  a2 : Int
  d2 : Int
  a1 : Int
  d1 : Int
  a0 : Int
  d0 : Int
  deriving DecidableEq, Repr, Inhabited

/-- One value for each calibration segment. -/
structure Calibration where
  seg0 : SegmentCoeffs
  seg1 : SegmentCoeffs
  seg2 : SegmentCoeffs
  deriving DecidableEq, Repr, Inhabited

/-- One value for each speed band: SPD_LIM[k] or DIR_LIM[k] (10_state R41). -/
structure PerBand (α : Type) where
  band0 : α
  band1 : α
  band2 : α
  deriving DecidableEq, Repr, Inhabited

/-- When PREV_DIR takes the new raw direction (10_state R41; 43_deviation R156; 90_conflicts C4). -/
inductive PrevDirPolicy where
  /-- Whenever a direction is computed: the default. -/
  | onCompute
  /-- Only when the direction passes its check. -/
  | onAccept
  deriving DecidableEq, Repr, Inhabited

/-- The configuration record CFG (10_state R41), as a candidate: nothing here says that it passes R42. The field
types are R41's; RATE_NUM, R_T1 and R_T2 are fixed for every configuration and stand below as constants. -/
structure CfgData where
  /-- DEBOUNCE, u32 µs. -/
  debounce : Word
  /-- TIMEOUT, u32 µs. -/
  timeout : Word
  /-- CAL_A2, CAL_A1, CAL_A0, CAL_D2, CAL_D1, CAL_D0, for k = 0, 1, 2. -/
  cal : Calibration
  /-- DIR_OFFSET, u9 degrees. -/
  dirOffset : Degrees
  /-- GAIN_Q8, u9: the smoother's gain times 256. -/
  gainQ8 : BitVec 9
  /-- BAND0, s32 hundredths of a knot. -/
  bandLimit0 : Word
  /-- BAND1, s32 hundredths of a knot. -/
  bandLimit1 : Word
  /-- SPD_LIM[k], s32 hundredths of a knot. -/
  spdLim : PerBand Word
  /-- DIR_LIM[k], u8 degrees. -/
  dirLim : PerBand (BitVec 8)
  /-- EMIT_PERIOD, u32 µs. -/
  emitPeriod : Word
  /-- PREV_DIR_POLICY. -/
  prevDirPolicy : PrevDirPolicy
  /-- DIAG_MODE: R42 admits false only. -/
  diagMode : Bool
  deriving DecidableEq, Repr, Inhabited

/-- The parameters the source gives no value for (92_eei_decisions, "OPEN parameters, summarised"), less the
host-side WAIT_TIMEOUT. -/
structure OpenParameters where
  cal : Calibration
  dirOffset : Degrees
  spdLim : PerBand Word
  dirLim : PerBand (BitVec 8)
  emitPeriod : Word
  deriving DecidableEq, Repr, Inhabited

/-- RATE_NUM, the numerator of the rotation rate: fixed (10_state R41; 42_calibration R130). -/
def Config.rateNum : Nat := 100000000

/-- R_T1, the lowest rate of segment 1: fixed (10_state R41; 42_calibration R132). -/
def Config.rT1 : Nat := 323

/-- R_T2, the lowest rate of segment 2: fixed (10_state R41; 42_calibration R132). -/
def Config.rT2 : Nat := 5436

/-- FREE VALUE: the device's OPEN parameters, of which the source gives only names and ranges (91_not_in_source
N3, N10, N21). No body: nothing can be proved of them. DESIGN CHOICE,
log entry 4. -/
opaque Config.openParameters : OpenParameters

/-- FREE VALUE: what a 32-bit speed register holds after it is given a speed outside s32. The spec states no
such result; R42 check 2 with R130 keeps every run away from it. DESIGN CHOICE, log entry 5. -/
opaque Config.speedOutOfRange : Int → Word

/-- FREE VALUE: DEC of a negative number. 45_encoder R181 defines DEC for n ≥ 0 only, and CUR_SPEED is never
negative in a run. DESIGN CHOICE, log entry 6. -/
opaque Config.decOfNegative : Int → List Byte

end Sys2Proof
end

