-- ==== Sys2Proof/Machine/Calibrator.lean ====
section
/-! DEFINITION. The arithmetic of the piecewise-quadratic calibrator on given coefficients (42_calibration R130
to R133): rotation rate, segment selection, segment polynomial, clamp. Everything is computed on exact integers
(00_scope R10); `/` truncates toward zero, which is `Int.tdiv`. -/

namespace Sys2Proof.Machine

/-- The rotation rate r = 100,000,000 / sI, for sI ≠ 0 (42_calibration R130). -/
def rotationRate (sI : Word) : Nat := Config.rateNum / sI.toNat

/-- Half-open segments: r < 323, 323 ≤ r < 5436, r ≥ 5436 (42_calibration R132). -/
def segmentOf (r : Nat) : Segment :=
  if r < Config.rT1 then .seg0
  else if r < Config.rT2 then .seg1
  else .seg2

/-- The coefficients of segment k. -/
def coeffsOf (c : Calibration) (k : Segment) : SegmentCoeffs :=
  match k with
  | .seg0 => c.seg0
  | .seg1 => c.seg1
  | .seg2 => c.seg2

/-- The quadratic term (CAL_A2 · r · r) / CAL_D2 of 42_calibration R131. -/
def quadraticTerm (c : SegmentCoeffs) (r : Int) : Int := (c.a2 * r * r).tdiv c.d2

/-- The linear term (CAL_A1 · r) / CAL_D1 of 42_calibration R131. -/
def linearTerm (c : SegmentCoeffs) (r : Int) : Int := (c.a1 * r).tdiv c.d1

/-- POLY_k(r), the unclamped speed (42_calibration R131). -/
def poly (c : SegmentCoeffs) (r : Int) : Int :=
  (quadraticTerm c r + linearTerm c r + c.a0).tdiv c.d0

/-- Every intermediate of POLY_k(r), in the order the pseudocode of 42_calibration R131 forms them (10_state R42
check 2 bounds each; that CAL_A2·r is one of them is DEDUCED, log entry 14). -/
def polyIntermediates (c : SegmentCoeffs) (r : Int) : List Int :=
  [c.a2 * r, c.a2 * r * r, quadraticTerm c r, c.a1 * r, linearTerm c r,
    quadraticTerm c r + linearTerm c r, quadraticTerm c r + linearTerm c r + c.a0, poly c r]

/-- The speed at rate r: the polynomial of r's segment, clamped to zero from below (42_calibration R133). -/
def speedAtRate (c : Calibration) (r : Nat) : Int := max 0 (poly (coeffsOf c (segmentOf r)) r)

/-- CAL on given coefficients: 0 for a stalled interval, without a division (42_calibration R134, R135). -/
def calWith (c : Calibration) (sI : Word) : Int :=
  if sI = 0#32 then 0 else speedAtRate c (rotationRate sI)

end Sys2Proof.Machine
end

