-- ==== Sys2Proof/Machine/ConfigCheck.lean ====
section
/-! DEFINITION. The eight checks of a configuration (10_state R42), the type of configurations that pass them,
and the configuration of the device. A configuration that fails a check has no machine: it is no value of `Cfg`. -/

namespace Sys2Proof.Machine

/-- A value a 64-bit signed datapath holds (10_state R42 check 2). -/
abbrev fitsS64 (v : Int) : Prop := -(2 ^ 63) ≤ v ∧ v ≤ 2 ^ 63 - 1

/-- A value an s32 register holds (00_scope R9; 10_state R42 check 2). -/
abbrev fitsS32 (v : Int) : Prop := -(2 ^ 31) ≤ v ∧ v ≤ 2 ^ 31 - 1

/-- RMAX = 100000000 / max(1, DEBOUNCE) (10_state R42 check 2). -/
def rMax (d : CfgData) : Nat := Config.rateNum / max 1 d.debounce.toNat

/-- Check 1, for one segment: every divisor is at least 1. -/
abbrev divisorsOk (c : SegmentCoeffs) : Prop := 1 ≤ c.d2 ∧ 1 ≤ c.d1 ∧ 1 ≤ c.d0

/-- Check 2, for one segment at one rate: every intermediate fits 64 bits and the unclamped result 32. -/
abbrev datapathOk (c : SegmentCoeffs) (r : Nat) : Prop :=
  (∀ v ∈ polyIntermediates c r, fitsS64 v) ∧ fitsS32 (poly c r)

/-- Check 1 of 10_state R42. -/
abbrev check1 (d : CfgData) : Prop :=
  divisorsOk d.cal.seg0 ∧ divisorsOk d.cal.seg1 ∧ divisorsOk d.cal.seg2

/-- Check 2 of 10_state R42: over every integer r in [0, RMAX] and every segment, selected by r or not. -/
abbrev check2 (d : CfgData) : Prop :=
  ∀ r : Nat, r ≤ rMax d → datapathOk d.cal.seg0 r ∧ datapathOk d.cal.seg1 r ∧ datapathOk d.cal.seg2 r

/-- Check 3 of 10_state R42. -/
abbrev check3 (d : CfgData) : Prop := d.dirOffset.toNat ≤ 359

/-- Check 4 of 10_state R42. -/
abbrev check4 (d : CfgData) : Prop := 1 ≤ d.gainQ8.toNat ∧ d.gainQ8.toNat ≤ 256

/-- Check 5 of 10_state R42. -/
abbrev check5 (d : CfgData) : Prop :=
  1 ≤ d.bandLimit0.toInt ∧ d.bandLimit0.toInt < d.bandLimit1.toInt

/-- Check 6 of 10_state R42. -/
abbrev check6 (d : CfgData) : Prop :=
  1 ≤ d.spdLim.band0.toInt ∧ 1 ≤ d.spdLim.band1.toInt ∧ 1 ≤ d.spdLim.band2.toInt

/-- Check 7, for one limit. -/
abbrev dirLimOk (l : BitVec 8) : Prop := 1 ≤ l.toNat ∧ l.toNat ≤ 180

/-- Check 7 of 10_state R42. -/
abbrev check7 (d : CfgData) : Prop :=
  dirLimOk d.dirLim.band0 ∧ dirLimOk d.dirLim.band1 ∧ dirLimOk d.dirLim.band2

/-- Check 8 of 10_state R42. -/
abbrev check8 (d : CfgData) : Prop := d.diagMode = false

/-- The configuration passes all eight checks of 10_state R42. -/
abbrev Valid (d : CfgData) : Prop :=
  check1 d ∧ check3 d ∧ check4 d ∧ check5 d ∧ check6 d ∧ check7 d ∧ check8 d ∧ check2 d

/-- CFG: a configuration record together with the fact that 10_state R42 accepts it. DESIGN CHOICE, log
entry 3. -/
structure Cfg where
  data : CfgData
  valid : Valid data
  deriving DecidableEq, Repr

/-- A record with the values 10_state R41 fixes or gives as defaults, and the OPEN parameters given. -/
def cfgDataWith (p : OpenParameters) : CfgData where
  debounce := 10000#32
  timeout := 1500000#32
  cal := p.cal
  dirOffset := p.dirOffset
  gainQ8 := 64#9
  bandLimit0 := 1000#32
  bandLimit1 := 8000#32
  spdLim := p.spdLim
  dirLim := p.dirLim
  emitPeriod := p.emitPeriod
  prevDirPolicy := .onCompute
  diagMode := false

/-- A parameter set that passes R42 by its form: it only stands in where the free one would be refused, so that
there is a machine at all. DESIGN CHOICE, log entry 4. -/
def acceptableParameters : OpenParameters where
  cal := ⟨⟨0, 1, 0, 1, 0, 1⟩, ⟨0, 1, 0, 1, 0, 1⟩, ⟨0, 1, 0, 1, 0, 1⟩⟩
  dirOffset := 0#9
  spdLim := ⟨1#32, 1#32, 1#32⟩
  dirLim := ⟨1#8, 1#8, 1#8⟩
  emitPeriod := 0#32

theorem acceptableParameters_valid : Valid (cfgDataWith acceptableParameters) := by
  refine ⟨by decide, by decide, by decide, by decide, by decide, by decide, rfl, ?_⟩
  intro r _
  simp [datapathOk, fitsS64, fitsS32, polyIntermediates, cfgDataWith, acceptableParameters, poly, quadraticTerm, linearTerm]

/-- The device's OPEN parameters: the free ones, of which only "R42 accepts them" is assumed (10_state R41,
R42). -/
def deviceParameters : OpenParameters :=
  if Valid (cfgDataWith Config.openParameters) then Config.openParameters else acceptableParameters

theorem deviceParameters_valid : Valid (cfgDataWith deviceParameters) := by
  by_cases h : Valid (cfgDataWith Config.openParameters)
  · simpa only [deviceParameters, if_pos h] using h
  · simpa only [deviceParameters, if_neg h] using acceptableParameters_valid

/-- The configuration of the device: the fixed values and decided defaults of 10_state R41, the OPEN parameters
free within R42. -/
def deviceCfg : Cfg := ⟨cfgDataWith deviceParameters, deviceParameters_valid⟩

end Sys2Proof.Machine
end

