-- ==== Sys2Proof/Machine/State.lean ====
section
/-! DEFINITION. The machine's state: every register of 10_state R22 to R38, the configuration, and the two fields
by which the model holds the host's side of the operation port. Plain data throughout. PECD has no memory and no
program counter (20_memory R50; 10_state R21), so State holds none. -/

namespace Sys2Proof.Machine

/-- DIR_STAT's four outcomes (10_state R34). -/
inductive DirStat where
  | notReached | accepted | rejected | skipped
  deriving DecidableEq, Repr

/-- FAULT_REASON (10_state R38). -/
inductive FaultReason where
  | none | reservedOp | reservedBits
  deriving DecidableEq, Repr

/-- One thing the host does at the ports (60_exceptions R232; 10_state R39). -/
inductive HostInput where
  /-- Assert `rst` (70_reset_and_hazards R250). -/
  | rst
  /-- Present an operation word on `op` with a time-base sample on `now`. -/
  | op (word : Byte) (now : Word)
  deriving DecidableEq, Repr

/-- Why the machine stops with a fault: never. PECD's one fault sets the FAULT register and "does not stop the
block" (60_exceptions R220), and "No condition is fatal", so no step raises a stop and there is no constructor.
That is safe: no behaviour is lost and none is added. -/
inductive Fault where
  deriving DecidableEq, Repr

/-- What the model refuses to run. -/
inductive Refusal where
  /-- Raised by an arm of `exec` for an instruction without a meaning: no arm raises it. Safe. -/
  | notModelled (mnemonic : String)
  /-- Raised by `boot` for a configuration that fails 10_state R42: there is no machine. Safe. -/
  | configurationRefused
  deriving DecidableEq, Repr

/-- The state of PECD (10_state R20). -/
structure State where
  /-- CFG: fixed before reset, written by no operation (10_state R41). -/
  cfg : Cfg
  /-- SPD_TS (R22). -/
  spdTs : Word
  /-- DIR_TS (R23). -/
  dirTs : Word
  /-- SPD_INT (R24). -/
  spdInt : Word
  /-- DIR_INT (R25). -/
  dirInt : Word
  /-- NEW_DATA (R26). -/
  newData : Bool
  /-- S_SPD_TS (R28). -/
  sSpdTs : Word
  /-- S_DIR_TS (R28). -/
  sDirTs : Word
  /-- S_SPD_INT (R28). -/
  sSpdInt : Word
  /-- S_DIR_INT (R28). -/
  sDirInt : Word
  /-- PREV_SPEED, s32 (R29). -/
  prevSpeed : Word
  /-- PREV_DIR (R30). -/
  prevDir : Degrees
  /-- SMOOTH_DIR (R31). -/
  smoothDir : Degrees
  /-- CUR_SPEED, s32 (R32). -/
  curSpeed : Word
  /-- SPEED_REJ (R33). -/
  speedRej : Bool
  /-- DIR_STAT (R34). -/
  dirStat : DirStat
  /-- STALL (R35). -/
  stall : Bool
  /-- LAST_EMIT (R36). -/
  lastEmit : Word
  /-- OUT, the first byte emitted first (R37); it only grows: DEDUCED, log entry 12. -/
  out : List Byte
  /-- FAULT (R38). -/
  fault : Bool
  /-- FAULT_REASON (R38). -/
  faultReason : FaultReason
  /-- The time-base sample on the `now` port (R39), as the operation presented last brought it. Not a register
  of the spec: DESIGN CHOICE, log entry 2. -/
  nowPort : Word
  /-- What the host will do at the ports, first thing first. Not a register of the spec: DESIGN
  CHOICE, log entry 1. -/
  inputs : List HostInput
  deriving DecidableEq, Repr

/-- The machine right after reset (70_reset_and_hazards R250), with the device's configuration; the host has
presented nothing yet. -/
def State.reset : State where
  cfg := deviceCfg
  spdTs := 0#32
  dirTs := 0#32
  spdInt := 0#32
  dirInt := 0#32
  newData := false
  sSpdTs := 0#32
  sDirTs := 0#32
  sSpdInt := 0#32
  sDirInt := 0#32
  prevSpeed := 0#32
  prevDir := 0#9
  smoothDir := 0#9
  curSpeed := 0#32
  speedRej := false
  dirStat := .notReached
  stall := false
  lastEmit := 0#32
  out := []
  fault := false
  faultReason := .none
  nowPort := 0#32
  inputs := []

end Sys2Proof.Machine
end

