-- ==== Sys2Proof/Machine/Ops.lean ====
section
/-! DEFINITION. The named operations every meaning is built from: the modular time difference (00_scope R10), the
register writes, in the groups in which the spec's rules make them, `emit(bytes)` and `raise Fault(reason)` of
00_scope R11, and what the ports do to the state (presentation and reset). -/

namespace Sys2Proof.Machine

/-- elapsed(a, b) = (a - b) mod 2^32 (00_scope R10). -/
def elapsed (a b : Word) : Word := a - b

/-- The writes of an accepted speed edge: SPD_INT, DIR_INT, NEW_DATA <- 1, SPD_TS (40_capture R102). -/
def State.captureSpeed (s : State) (speedInterval dirInterval now : Word) : State :=
  { s with spdInt := speedInterval, dirInt := dirInterval, newData := true, spdTs := now }

/-- The write of an accepted direction edge: DIR_TS (40_capture R104). -/
def State.captureDir (s : State) (now : Word) : State :=
  { s with dirTs := now }

/-- SNAPSHOT's atomic window: the four copies and NEW_DATA <- 0 (41_snapshot R120). -/
def State.copyCapture (s : State) : State :=
  { s with sSpdTs := s.spdTs, sDirTs := s.dirTs, sSpdInt := s.spdInt, sDirInt := s.dirInt, newData := false }

/-- S_SPD_INT <- v, and STALL <- 1 exactly when that value is zero (41_snapshot R120; 10_state R35). -/
def State.setSnapshotInterval (s : State) (v : Word) : State :=
  { s with sSpdInt := v, stall := decide (v = 0#32) }

/-- PREV_SPEED <- v (43_deviation R153). -/
def State.setPrevSpeed (s : State) (v : Word) : State :=
  { s with prevSpeed := v }

/-- An accepted speed: CUR_SPEED <- v, SPEED_REJ <- 0 (43_deviation R153). -/
def State.acceptSpeed (s : State) (v : Word) : State :=
  { s with curSpeed := v, speedRej := false }

/-- A rejected speed: SPEED_REJ <- 1, DIR_STAT <- NOT_REACHED (43_deviation R153). -/
def State.rejectSpeed (s : State) : State :=
  { s with speedRej := true, dirStat := .notReached }

/-- DIR_STAT <- d (43_deviation R154, R156). -/
def State.setDirStat (s : State) (d : DirStat) : State :=
  { s with dirStat := d }

/-- PREV_DIR <- d (43_deviation R156). -/
def State.setPrevDir (s : State) (d : Degrees) : State :=
  { s with prevDir := d }

/-- SMOOTH_DIR <- d (43_deviation R156). -/
def State.setSmoothDir (s : State) (d : Degrees) : State :=
  { s with smoothDir := d }

/-- emit(bytes): append to OUT (00_scope R11; 10_state R37). -/
def State.emitBytes (s : State) (bytes : List Byte) : State :=
  { s with out := s.out ++ bytes }

/-- LAST_EMIT <- now (45_encoder R186). -/
def State.setLastEmit (s : State) (now : Word) : State :=
  { s with lastEmit := now }

/-- raise Fault(reason): FAULT <- 1 and FAULT_REASON <- reason, nothing else (60_exceptions R220). It is the one
exception PECD takes; there is no return from it but reset (R220, R226). -/
def State.raiseFault (s : State) (reason : FaultReason) : State :=
  { s with fault := true, faultReason := reason }

/-- The host's next input is taken: the sample `now` stands on its port, `rest` is still to come (10_state R39). -/
def State.presentOp (s : State) (now : Word) (rest : List HostInput) : State :=
  { s with nowPort := now, inputs := rest }

/-- Asserting `rst`: every register to its reset value; CFG is not state and keeps its value
(70_reset_and_hazards R250). `rest` is what the host does afterwards. DESIGN CHOICE, log entry 10. -/
def State.assertReset (s : State) (rest : List HostInput) : State :=
  { State.reset with cfg := s.cfg, inputs := rest }

/-- No operation is presented: "Nothing but reset changes it without an operation" (60_exceptions R231). -/
def State.hold (s : State) : State := s

end Sys2Proof.Machine
end

