-- ==== Sys2Proof/Machine/Operands.lean ====
section
/-! DEFINITION. How operands are read and results narrowed: the `now` sample (30_encoding R71), the configuration
by segment and band, speeds as signed values and directions as numbers (00_scope R9, R10). -/

namespace Sys2Proof.Machine

/-- The operand `now` of the operation that runs (00_scope R11; 30_encoding R71). -/
abbrev State.now (s : State) : Word := s.nowPort

/-- The value of an s32 register (00_scope R9). -/
abbrev speedValue (w : Word) : Int := w.toInt

/-- The s32 register that holds a speed. Outside s32 the spec states no result: a free value, DESIGN CHOICE,
log entry 5. -/
def speedWord (v : Int) : Word :=
  if -(2 ^ 31) ≤ v ∧ v ≤ 2 ^ 31 - 1 then BitVec.ofInt 32 v else Config.speedOutOfRange v

/-- The value of a direction register, in degrees. -/
abbrev degreesValue (d : Degrees) : Int := d.toNat

/-- The u9 register that holds a number of degrees. -/
def degreesWord (v : Int) : Degrees := BitVec.ofInt 9 v

/-- The field of a per-band parameter for band b (10_state R41). -/
def bandValue {α : Type} (p : PerBand α) (b : Band) : α :=
  match b with
  | .band0 => p.band0
  | .band1 => p.band1
  | .band2 => p.band2

/-- SPD_LIM[b], in hundredths of a knot (10_state R41). -/
def speedLimit (c : CfgData) (b : Band) : Int := (bandValue c.spdLim b).toInt

/-- DIR_LIM[b], in degrees (10_state R41). -/
def dirLimit (c : CfgData) (b : Band) : Int := (bandValue c.dirLim b).toNat

end Sys2Proof.Machine
end

