-- ==== Sys2Proof/Machine/Capture.lean ====
section
/-! DEFINITION. Edge capture and the timestamp differencer: SPD_EDGE and DIR_EDGE (40_capture). -/

namespace Sys2Proof.Machine

/-- The debounce test on a line last accepted at `ts`: ignore the event if and only if
elapsed(now, ts) < DEBOUNCE (40_capture R101). -/
def debounced (c : CfgData) (now ts : Word) : Bool := decide (elapsed now ts < c.debounce)

/-- The level re-check and the debounce test together: the event is handled (40_capture R100, R101). -/
def edgeAccepted (c : CfgData) (lvl : Level) (now ts : Word) : Bool :=
  match lvl with
  | .hi => false
  | .lo => !debounced c now ts

/-- DIR_INT after an accepted speed edge: refreshed when the direction timestamp is not older than the previous
speed timestamp, compared as raw unsigned values; otherwise the old, stale value (40_capture R102). -/
def refreshedDirInt (s : State) : Word :=
  if s.spdTs ≤ s.dirTs then s.dirTs - s.spdTs else s.dirInt

/-- SPD_EDGE (40_capture R102). -/
def speedEdge (lvl : Level) (s : State) : State :=
  if edgeAccepted s.cfg.data lvl s.now s.spdTs then
    s.captureSpeed (elapsed s.now s.spdTs) (refreshedDirInt s) s.now
  else s

/-- DIR_EDGE (40_capture R104). -/
def dirEdge (lvl : Level) (s : State) : State :=
  if edgeAccepted s.cfg.data lvl s.now s.dirTs then s.captureDir s.now else s

/-- The meaning of SPD_EDGE (40_capture R102). -/
def execSpdEdge (lvl : Level) (s : State) : Host.Outcome State Fault Refusal :=
  .next (speedEdge lvl s)

/-- The meaning of DIR_EDGE (40_capture R104). -/
def execDirEdge (lvl : Level) (s : State) : Host.Outcome State Fault Refusal :=
  .next (dirEdge lvl s)

end Sys2Proof.Machine
end

