-- ==== Sys2Proof/Machine/Deviation.lean ====
section
/-! DEFINITION. The band-pass deviation filter: the speed step and the two tests of the direction step
(43_deviation). -/

namespace Sys2Proof.Machine

/-- CAL(sI) under the machine's configuration (42_calibration R135). -/
def cal (c : CfgData) (sI : Word) : Int := calWith c.cal sI

/-- The band of the raw speed under test (43_deviation R151). -/
def bandOf (c : CfgData) (v : Int) : Band :=
  if v < c.bandLimit0.toInt then .band0
  else if v < c.bandLimit1.toInt then .band1
  else .band2

/-- The speed check: |v - p| < SPD_LIM[band(v)], strictly (43_deviation R152). -/
def speedAccepted (c : CfgData) (v p : Int) : Bool :=
  decide (((v - p).natAbs : Int) < speedLimit c (bandOf c v))

/-- The reset of PREV_SPEED on a stalled cycle, before the check (43_deviation R150). -/
def resetPrevSpeedOnStall (s : State) : State :=
  if s.sSpdInt = 0#32 then s.setPrevSpeed 0#32 else s

/-- SPEED_STEP(v): whether the speed is accepted, its band, and the state after (43_deviation R153). -/
def speedStep (v : Int) (s : State) : Bool × Band × State :=
  let s0 := resetPrevSpeedOnStall s
  let b := bandOf s0.cfg.data v
  let ok := speedAccepted s0.cfg.data v (speedValue s0.prevSpeed)
  let s1 := s0.setPrevSpeed (speedWord v)
  if ok then (true, b, s1.acceptSpeed (speedWord v)) else (false, b, s1.rejectSpeed)

/-- Direction is skipped: a stalled snapshot, or an inconsistent phase (43_deviation R154). -/
def directionSkipped (s : State) : Bool :=
  decide (s.sSpdInt = 0#32) || decide (s.sSpdInt < s.sDirInt)

/-- DIR_RAW = ((S_DIR_INT · 360) / S_SPD_INT + DIR_OFFSET) mod 360, exact, for S_SPD_INT ≠ 0
(43_deviation R155). -/
def dirRaw (s : State) : Int :=
  ((s.sDirInt.toNat * 360) / s.sSpdInt.toNat + s.cfg.data.dirOffset.toNat) % 360

/-- The direction check: d < L or d > 360 - L, with d = |raw - previous| (43_deviation R156). -/
def directionAccepted (limit raw previous : Int) : Bool :=
  decide (((raw - previous).natAbs : Int) < limit) || decide (360 - limit < ((raw - previous).natAbs : Int))

end Sys2Proof.Machine
end

