-- ==== Sys2Proof/Machine/Encoder.lean ====
section
/-! DEFINITION. The sentence encoder with checksum and EMIT (45_encoder). -/

namespace Sys2Proof.Machine

/-- The ASCII code of a character (00_scope R9). -/
def ascii (c : Char) : Byte := BitVec.ofNat 8 c.toNat

/-- The ASCII codes of a sequence of characters, in order (00_scope R9). -/
def asciiBytes (cs : List Char) : List Byte := cs.map ascii

/-- The digit '0' to '9' of a number below ten. -/
def decimalDigit (n : Nat) : Byte := BitVec.ofNat 8 (48 + n)

/-- The decimal digits of n, most significant first, no leading zeros; `fuel` bounds the number of digits after
the first. -/
def decimalDigits (fuel n : Nat) : List Byte :=
  match fuel with
  | 0 => [decimalDigit (n % 10)]
  | fuel + 1 => if n < 10 then [decimalDigit n] else decimalDigits fuel (n / 10) ++ [decimalDigit (n % 10)]

/-- DEC(n) (45_encoder R181). A negative n has no DEC in the spec: a free value, DESIGN CHOICE, log
entry 6. -/
def dec (n : Int) : List Byte :=
  if n < 0 then Config.decOfNegative n else decimalDigits n.toNat n.toNat

/-- CS(body): the exclusive-or of every byte (45_encoder R184). -/
def checksum (body : List Byte) : Byte := body.foldl (· ^^^ ·) 0#8

/-- An uppercase hexadecimal digit (45_encoder R185). -/
def hexDigit (n : BitVec 4) : Byte :=
  if n.toNat < 10 then BitVec.ofNat 8 (48 + n.toNat) else BitVec.ofNat 8 (55 + n.toNat)

/-- HEX2(c): the high nibble, then the low nibble; always two characters (45_encoder R185). -/
def hex2 (c : Byte) : List Byte := [hexDigit (c.extractLsb' 4 4), hexDigit (c.extractLsb' 0 4)]

/-- The part of the sentence strictly between '$' and '*' (45_encoder R180): the integer part of the speed is
spd / 100, its one fractional digit (spd mod 100) / 10 (R182). -/
def sentenceBody (dir spd : Int) : List Byte :=
  asciiBytes ['W', 'I', 'M', 'W', 'V', ','] ++ dec dir ++ asciiBytes ['.', '0', ',', 'R', ','] ++
    dec (spd.tdiv 100) ++ asciiBytes ['.'] ++ dec ((spd % 100).tdiv 10) ++ asciiBytes [',', 'N', ',', 'A']

/-- SENTENCE(dir, spd) (45_encoder R180). No line terminator (R187). -/
def sentence (dir spd : Int) : List Byte :=
  asciiBytes ['$'] ++ sentenceBody dir spd ++ asciiBytes ['*'] ++ hex2 (checksum (sentenceBody dir spd))

/-- EMIT: append the sentence of SMOOTH_DIR and CUR_SPEED, LAST_EMIT <- now (45_encoder R186). -/
def emitSentence (s : State) : State :=
  (s.emitBytes (sentence (degreesValue s.smoothDir) (speedValue s.curSpeed))).setLastEmit s.now

/-- The meaning of EMIT (45_encoder R186). -/
def execEmit (s : State) : Host.Outcome State Fault Refusal :=
  .next (emitSentence s)

end Sys2Proof.Machine
end

