-- ==== Sys2Proof/Machine/Smoother.lean ====
section
/-! DEFINITION. The circular exponential smoother (44_smoother), on exact integers. -/

namespace Sys2Proof.Machine

/-- The shortest-path delta from s to raw; +180 and -180 stay as they are (44_smoother R171). -/
def shortestDelta (raw s : Int) : Int :=
  let delta := raw - s
  if delta < -180 then delta + 360
  else if 180 < delta then delta - 360
  else delta

/-- round(gain · delta) with the gain GAIN_Q8/256, halves away from zero:
sign(delta) · ((|delta| · GAIN_Q8 + 128) >> 8) (44_smoother R172, R173). -/
def gainRound (gainQ8 : Nat) (delta : Int) : Int :=
  delta.sign * (((delta.natAbs * gainQ8 + 128) >>> 8 : Nat) : Int)

/-- One correction by a full turn, into [0, 359] (44_smoother R172). -/
def wrapDegrees (t : Int) : Int :=
  if t < 0 then t + 360 else if 360 ≤ t then t - 360 else t

/-- SMOOTH(s, raw) (44_smoother R172). -/
def smooth (gainQ8 : Nat) (s raw : Int) : Int :=
  wrapDegrees (s + gainRound gainQ8 (shortestDelta raw s))

end Sys2Proof.Machine
end

