-- ==== Sys2Proof/Machine/Snapshot.lean ====
section
/-! DEFINITION. The signal snapshot: SNAPSHOT (41_snapshot). -/

namespace Sys2Proof.Machine

/-- The timeout test: elapsed(now, S_SPD_TS) > TIMEOUT, strictly (41_snapshot R121). -/
def timedOut (c : CfgData) (now sSpdTs : Word) : Bool := decide (c.timeout < elapsed now sSpdTs)

/-- SNAPSHOT: the atomic copy, then the timeout on the copied interval, then STALL (41_snapshot R120). -/
def takeSnapshot (s : State) : State :=
  let copied := s.copyCapture
  copied.setSnapshotInterval
    (if timedOut copied.cfg.data copied.now copied.sSpdTs then 0#32 else copied.sSpdInt)

/-- The meaning of SNAPSHOT (41_snapshot R120). -/
def execSnapshot (s : State) : Host.Outcome State Fault Refusal :=
  .next (takeSnapshot s)

end Sys2Proof.Machine
end

