-- ==== Sys2Proof/Machine/Cycle.lean ====
section
/-! DEFINITION. The conditioning cycle and the composite operations: CONDITION, CYCLE and NOP (46_cycle). -/

namespace Sys2Proof.Machine

/-- DIR_STEP(b) (43_deviation R156): the raw direction, the check against PREV_DIR before it is overwritten, the
update of PREV_DIR by the policy, and the smoother on an accepted direction (44_smoother R170). -/
def dirStep (b : Band) (s : State) : State :=
  let raw := dirRaw s
  let ok := directionAccepted (dirLimit s.cfg.data b) raw (degreesValue s.prevDir)
  let s1 :=
    match s.cfg.data.prevDirPolicy with
    | .onCompute => s.setPrevDir (degreesWord raw)
    | .onAccept => if ok then s.setPrevDir (degreesWord raw) else s
  if ok then
    (s1.setSmoothDir
      (degreesWord (smooth s1.cfg.data.gainQ8.toNat (degreesValue s1.smoothDir) raw))).setDirStat .accepted
  else s1.setDirStat .rejected

/-- What a conditioning pass does after an accepted speed of band b: skip or run the direction step
(46_cycle R200; 43_deviation R154). -/
def directionPass (b : Band) (s : State) : State :=
  if directionSkipped s then s.setDirStat .skipped else dirStep b s

/-- CONDITION: one conditioning pass over the snapshot registers (46_cycle R200). -/
def conditionPass (s : State) : State :=
  match speedStep (cal s.cfg.data s.sSpdInt) s with
  | (true, b, s1) => directionPass b s1
  | (false, _, s1) => s1

/-- The rate limit: elapsed(now, LAST_EMIT) ≥ EMIT_PERIOD (46_cycle R202). -/
def emissionDue (c : CfgData) (now lastEmit : Word) : Bool := decide (c.emitPeriod ≤ elapsed now lastEmit)

/-- CYCLE: SNAPSHOT, CONDITION, and EMIT when the rate limit allows (46_cycle R202). -/
def cyclePass (s : State) : State :=
  let conditioned := conditionPass (takeSnapshot s)
  if emissionDue conditioned.cfg.data conditioned.now conditioned.lastEmit then emitSentence conditioned
  else conditioned

/-- The meaning of CONDITION (46_cycle R200). -/
def execCondition (s : State) : Host.Outcome State Fault Refusal :=
  .next (conditionPass s)

/-- The meaning of CYCLE (46_cycle R202). -/
def execCycle (s : State) : Host.Outcome State Fault Refusal :=
  .next (cyclePass s)

/-- The meaning of NOP: no effect (46_cycle R203). -/
def execNop (s : State) : Host.Outcome State Fault Refusal :=
  .next s

end Sys2Proof.Machine
end

