-- ==== Sys2Proof/Machine/Reserved.lean ====
section
/-! DEFINITION. The two classes of ill-formed words. Each sets the sticky fault and changes nothing else
(60_exceptions R220); the word itself is not recorded. DEDUCED, log entry 7. -/

namespace Sys2Proof.Machine

/-- The meaning of a word with OPC = 111: FAULT <- 1, FAULT_REASON <- RESERVED_OP (60_exceptions R220, R221). -/
def execReservedOp (_rsv : BitVec 4) (_lvl : Level) (s : State) : Host.Outcome State Fault Refusal :=
  .next (s.raiseFault .reservedOp)

/-- The meaning of every other ill-formed word: FAULT <- 1, FAULT_REASON <- RESERVED_BITS (60_exceptions R220,
R221). -/
def execReservedBits (_rsv : BitVec 4) (_lvl : Level) (_opc : BitVec 3) (s : State) :
    Host.Outcome State Fault Refusal :=
  .next (s.raiseFault .reservedBits)

end Sys2Proof.Machine
end

