-- ==== Sys2Proof/Machine/Dispatch.lean ====
section
/-! DEFINITION. One arm per constructor of Instr: each instruction's meaning. -/

namespace Sys2Proof.Machine

def exec (i : Instr) (s : State) : Host.Outcome State Fault Refusal :=
  match i with
  | .nop => Sys2Proof.Machine.execNop s
  | .spdEdge lvl => Sys2Proof.Machine.execSpdEdge lvl s
  | .dirEdge lvl => Sys2Proof.Machine.execDirEdge lvl s
  | .snapshot => Sys2Proof.Machine.execSnapshot s
  | .condition => Sys2Proof.Machine.execCondition s
  | .emit => Sys2Proof.Machine.execEmit s
  | .cycle => Sys2Proof.Machine.execCycle s
  | .reservedOp rsv lvl => Sys2Proof.Machine.execReservedOp rsv lvl s
  | .reservedBits rsv lvl opc => Sys2Proof.Machine.execReservedBits rsv lvl opc s

end Sys2Proof.Machine
end

