-- ==== Sys2Proof/Machine/Flags.lean ====
section
/-! DEFINITION. The output ports and the flags they show (10_state R39, R40). They are views: reading one changes
nothing (20_memory R54), and no operation writes STATUS. PECD has no arithmetic flags (10_state R43). -/

namespace Sys2Proof.Machine

/-- DIR_STAT's two bits (10_state R34). -/
def DirStat.bits (d : DirStat) : BitVec 2 :=
  match d with
  | .notReached => 0b00#2
  | .accepted => 0b01#2
  | .rejected => 0b10#2
  | .skipped => 0b11#2

/-- The `status` port: [0] NEW_DATA, [1] SPEED_REJ, [3:2] DIR_STAT, [4] STALL, [5] FAULT, [7:6] zero
(10_state R40). -/
def State.status (s : State) : BitVec 8 :=
  0b00#2 ++ BitVec.ofBool s.fault ++ BitVec.ofBool s.stall ++ s.dirStat.bits ++
    BitVec.ofBool s.speedRej ++ BitVec.ofBool s.newData

/-- The `speed_out` port: CUR_SPEED (10_state R39). -/
def State.speedOut (s : State) : Word := s.curSpeed

/-- The `dir_out` port: SMOOTH_DIR (10_state R39). -/
def State.dirOut (s : State) : Degrees := s.smoothDir

end Sys2Proof.Machine
end

