-- ==== Sys2Proof/Machine/Ports.lean ====
section
/-! DEFINITION. The host's side of the ports (60_exceptions section 2, section 6; 70_reset_and_hazards section 2):
which operation an edge line's handler is, the boot order, when the host's cycle policy asks for a CYCLE, and the
word a program placed at the operation port has. The policy is the host's duty: nothing in `step` enforces it. -/

namespace Sys2Proof.Machine

/-- The two edge sources (60_exceptions R223). -/
inductive EdgeLine where
  /-- The speed line `spd_n`. -/
  | speed
  /-- The direction line `dir_n`. -/
  | direction
  deriving DecidableEq, Repr

/-- A line goes from high to low (60_exceptions R223). -/
def fallingEdge (before after : Level) : Bool := decide (before = .hi) && decide (after = .lo)

/-- The handler operation of a line, with the level at the moment of presentation (60_exceptions R223;
70_reset_and_hazards R257). -/
def EdgeLine.handler (line : EdgeLine) (level : Level) : Instr :=
  match line with
  | .speed => .spdEdge level
  | .direction => .dirEdge level

/-- What the host presents for an edge on a line (60_exceptions R223, R232). -/
def EdgeLine.present (line : EdgeLine) (level : Level) (now : Word) : HostInput :=
  .op (encode (line.handler level)) now

/-- The host's cycle policy asks for a CYCLE at `now`: new data, or WAIT_TIMEOUT µs since the last CYCLE. The
parameter is the host's (60_exceptions R224); its default is TIMEOUT. The spec gives it no width ("any"): that it is
a 32-bit word, as TIMEOUT and the samples are, is DESIGN CHOICE, log entry 9. -/
def cycleDue (waitTimeout lastCycle now : Word) (s : State) : Bool :=
  s.newData || decide (waitTimeout ≤ elapsed now lastCycle)

/-- The default of the host-side WAIT_TIMEOUT (60_exceptions R224; 00_scope R7). -/
def defaultWaitTimeout (c : CfgData) : Word := c.timeout

/-- The boot order: fix CFG, which must pass 10_state R42 or there is no machine; assert `rst`; then the host's
inputs come (70_reset_and_hazards R252). -/
def boot (d : CfgData) (inputs : List HostInput) : Host.Outcome State Fault Refusal :=
  if h : Valid d then .next { State.reset with cfg := ⟨d, h⟩, inputs := inputs }
  else .refused .configurationRefused

/-- The operation word that `nbits` bits are. Every word is 8 bits (30_encoding R75). DESIGN CHOICE, log entry 15:
a number is cut to the bits given and to eight, and the bits of the word above them are 0. Where `decodeTableWord`
answers an instruction this word decodes to it (`decode_placedWord`). -/
def placedWord (nbits w : Nat) : Byte := BitVec.ofNat 8 (w % 2 ^ nbits)

end Sys2Proof.Machine
end

