-- ==== Sys2Proof/Machine/Step.lean ====
section
/-! DEFINITION. One step: the host's next input, applied. There is no fetch: operation words come from the port,
not from memory (20_memory R59), and the order of presentation is the only sequencing (10_state R21). -/

namespace Sys2Proof.Machine

/-- One step of PECD under the inputs the host will present: an operation runs with its time sample on the `now`
port, `rst` resets, and with nothing presented the state is held (60_exceptions R231, R232). -/
def step (s : State) : Host.Outcome State Fault Refusal :=
  match s.inputs with
  | [] => .next s.hold
  | .rst :: rest => .next (s.assertReset rest)
  | .op word now :: rest => exec (decode word) (s.presentOp now rest)

/-- The state with an instruction placed where the next step takes it: the word is the host's next presentation,
with the time sample now on the port; everything the host was to do follows it. DESIGN CHOICE, log
entry 1. -/
def State.withFetchWord (s : State) (nbits w : Nat) : State :=
  { s with inputs := .op (placedWord nbits w) s.nowPort :: s.inputs }

end Sys2Proof.Machine
end

