-- ==== Sys2Proof/Machine/Assembler.lean ====
section
/-! DEFINITION. The assembler syntax of 30_encoding R76 and R77: a program is a list of timed operations, one a
line, and stands for the host's presentations in the order of its lines. The parts of the text form that R76
leaves open (what separates tokens, blank lines, leading zeros) are DESIGN CHOICE, log entry 11. -/

namespace Sys2Proof.Machine

/-- Why a line is not in the syntax of 30_encoding R76. -/
inductive AsmError where
  /-- The first token is not a decimal number followed by a colon. -/
  | badTime
  /-- The time is not in [0, 2^32 - 1]. -/
  | timeOutOfRange
  /-- The second token is no mnemonic, or there is none. -/
  | badMnemonic
  /-- A level suffix other than LO or HI, or on an operation that takes none, or a further token. -/
  | badSuffix
  deriving DecidableEq, Repr

/-- An operation as a line writes it, pseudo-operations included (30_encoding R76, R77). -/
inductive SourceOp where
  | nop
  | spdEdge (suffix : Option Level)
  | dirEdge (suffix : Option Level)
  | snapshot
  | condition
  | emit
  | cycle
  /-- The pseudo-operation SPD. -/
  | spd
  /-- The pseudo-operation DIR. -/
  | dir
  deriving DecidableEq, Repr

/-- One line of a program: an operation and the value presented on `now` with it (30_encoding R76). -/
structure TimedOp where
  time : Word
  instr : Instr
  deriving DecidableEq, Repr

/-- The operation a line stands for: an absent suffix means LO, and SPD and DIR expand (30_encoding R76, R77). -/
def SourceOp.expand (o : SourceOp) : Instr :=
  match o with
  | .nop => .nop
  | .spdEdge suffix => .spdEdge (suffix.getD .lo)
  | .dirEdge suffix => .dirEdge (suffix.getD .lo)
  | .snapshot => .snapshot
  | .condition => .condition
  | .emit => .emit
  | .cycle => .cycle
  | .spd => .spdEdge .lo
  | .dir => .dirEdge .lo

/-- A character that separates tokens. -/
def isBlank (c : Char) : Bool := c == ' ' || c == '\t' || c == '\r'

/-- The line without its comment: `;` starts one (30_encoding R76). -/
def stripComment (line : List Char) : List Char := line.takeWhile (fun c => c != ';')

/-- The tokens of a line, in order. -/
def tokens (line : List Char) : List (List Char) :=
  (line.foldr (fun c acc =>
      if isBlank c then [] :: acc
      else match acc with
        | [] => [[c]]
        | t :: ts => (c :: t) :: ts) [[]]).filter (fun t => !t.isEmpty)

/-- The value of a decimal digit. -/
def digitValue (c : Char) : Option Nat :=
  if '0'.toNat ≤ c.toNat ∧ c.toNat ≤ '9'.toNat then some (c.toNat - '0'.toNat) else none

/-- The value of a sequence of decimal digits, continuing from `acc`. -/
def digitsValue (acc : Nat) (cs : List Char) : Option Nat :=
  match cs with
  | [] => some acc
  | c :: rest =>
    match digitValue c with
    | some d => digitsValue (10 * acc + d) rest
    | none => none

/-- The time token: decimal digits and a colon, in [0, 2^32 - 1] (30_encoding R76). -/
def parseTime (token : List Char) : Except AsmError Word :=
  match token.reverse with
  | ':' :: d :: ds =>
    match digitsValue 0 (d :: ds).reverse with
    | some n => if n < 2 ^ 32 then .ok (BitVec.ofNat 32 n) else .error .timeOutOfRange
    | none => .error .badTime
  | _ => .error .badTime

/-- The level suffix (30_encoding R76). -/
def parseSuffix (token : List Char) : Except AsmError Level :=
  if token = ['L', 'O'] then .ok .lo
  else if token = ['H', 'I'] then .ok .hi
  else .error .badSuffix

/-- The mnemonics of 30_encoding R76 and R77 that take no suffix. -/
def plainMnemonic (token : List Char) : Option SourceOp :=
  if token = ['N', 'O', 'P'] then some .nop
  else if token = ['S', 'N', 'A', 'P', 'S', 'H', 'O', 'T'] then some .snapshot
  else if token = ['C', 'O', 'N', 'D', 'I', 'T', 'I', 'O', 'N'] then some .condition
  else if token = ['E', 'M', 'I', 'T'] then some .emit
  else if token = ['C', 'Y', 'C', 'L', 'E'] then some .cycle
  else if token = ['S', 'P', 'D'] then some .spd
  else if token = ['D', 'I', 'R'] then some .dir
  else none

/-- The mnemonics that take a level suffix, given the suffix (30_encoding R76). -/
def edgeMnemonic (token : List Char) (suffix : Option Level) : Option SourceOp :=
  if token = ['S', 'P', 'D', '_', 'E', 'D', 'G', 'E'] then some (.spdEdge suffix)
  else if token = ['D', 'I', 'R', '_', 'E', 'D', 'G', 'E'] then some (.dirEdge suffix)
  else none

/-- The operation of a line's tokens after the time (30_encoding R76). -/
def parseOp (toks : List (List Char)) : Except AsmError SourceOp :=
  match toks with
  | [] => .error .badMnemonic
  | [m] =>
    match plainMnemonic m, edgeMnemonic m none with
    | some o, _ => .ok o
    | none, some o => .ok o
    | none, none => .error .badMnemonic
  | [m, sfx] =>
    match parseSuffix sfx with
    | .error e => .error e
    | .ok level =>
      match edgeMnemonic m (some level), plainMnemonic m with
      | some o, _ => .ok o
      | none, some _ => .error .badSuffix
      | none, none => .error .badMnemonic
  | _ :: _ :: _ :: _ => .error .badSuffix

/-- One line: nothing for a line that is blank or a comment only, else its timed operation (30_encoding R76). -/
def parseLine (line : List Char) : Except AsmError (Option TimedOp) :=
  match tokens (stripComment line) with
  | [] => .ok none
  | time :: rest =>
    match parseTime time with
    | .error e => .error e
    | .ok t =>
      match parseOp rest with
      | .error e => .error e
      | .ok o => .ok (some ⟨t, o.expand⟩)

/-- A program: its lines' timed operations, in order; the first wrong line's error (30_encoding R76). -/
def parseProgram (lines : List (List Char)) : Except AsmError (List TimedOp) :=
  match lines with
  | [] => .ok []
  | line :: rest =>
    match parseLine line with
    | .error e => .error e
    | .ok first =>
      match parseProgram rest with
      | .error e => .error e
      | .ok ops => .ok (first.toList ++ ops)

/-- What the host presents for a timed operation (30_encoding R76, R78). -/
def TimedOp.input (o : TimedOp) : HostInput := .op (encode o.instr) o.time

/-- The host's presentations of a program: "The program's order is the order of presentation" (30_encoding
R76). -/
def programInputs (ops : List TimedOp) : List HostInput := ops.map TimedOp.input

end Sys2Proof.Machine
end

