-- ==== Sys2Proof/Safety.lean ====
section
/-! DEFINITION. What counts as a safe run, and the predicates claims are stated in: a good final state, the
machine's invariant, the groups of registers the spec's ownership rules speak of, and the two properties of a
calibration. -/

namespace Sys2Proof.Machine

/-- "a faulted state is never a good final state" (60_exceptions R220). -/
def State.good (s : State) : Bool := !s.fault

/-- The capture registers (10_state R22 to R26). -/
def State.captureRegs (s : State) : Word × Word × Word × Word × Bool :=
  (s.spdTs, s.dirTs, s.spdInt, s.dirInt, s.newData)

/-- The snapshot registers (10_state R28). -/
def State.snapshotRegs (s : State) : Word × Word × Word × Word :=
  (s.sSpdTs, s.sDirTs, s.sSpdInt, s.sDirInt)

/-- The filter registers (10_state R29 to R32). -/
def State.filterRegs (s : State) : Word × Degrees × Degrees × Word :=
  (s.prevSpeed, s.prevDir, s.smoothDir, s.curSpeed)

/-- The fault registers (10_state R38). -/
def State.faultRegs (s : State) : Bool × FaultReason := (s.fault, s.faultReason)

/-- An interval register holds zero or at least DEBOUNCE (40_capture R102, corner case 10; 42_calibration R130). -/
def intervalOk (c : CfgData) (w : Word) : Prop := w = 0#32 ∨ c.debounce ≤ w

/-- What holds in every state a run reaches: the intervals are zero or at least DEBOUNCE (R130), the speeds are
never negative (R32, R133), the directions are in [0, 359] (R30, R31), a stall flag means a zero snapshot interval
(R35), a rejected speed means NOT_REACHED (R34), the fault bit and its reason agree (R38), and OUT is 7-bit ASCII
(R180). -/
structure State.Inv (s : State) : Prop where
  spdInt : intervalOk s.cfg.data s.spdInt
  sSpdInt : intervalOk s.cfg.data s.sSpdInt
  prevSpeed : 0 ≤ speedValue s.prevSpeed
  curSpeed : 0 ≤ speedValue s.curSpeed
  prevDir : s.prevDir.toNat < 360
  smoothDir : s.smoothDir.toNat < 360
  stall : s.stall = true → s.sSpdInt = 0#32
  speedRej : s.speedRej = true → s.dirStat = .notReached
  fault : s.fault = true ↔ s.faultReason ≠ .none
  out : ∀ b ∈ s.out, b.toNat < 128

/-- CAL_MONOTONE (42_calibration R136): within a segment and up to RMAX the clamped speed does not decrease. A
property to check of a configuration; no configuration is refused for failing it. -/
def CalMonotone (d : CfgData) : Prop :=
  ∀ r1 r2 : Nat, r1 ≤ r2 → r2 ≤ rMax d → segmentOf r1 = segmentOf r2 →
    max 0 (poly (coeffsOf d.cal (segmentOf r1)) r1) ≤ max 0 (poly (coeffsOf d.cal (segmentOf r2)) r2)

/-- CAL_CONTINUOUS with a stated tolerance (42_calibration R136): neighbouring segments agree at r = 323 and
r = 5436 within it. -/
def CalContinuous (tolerance : Nat) (d : CfgData) : Prop :=
  (poly d.cal.seg0 Config.rT1 - poly d.cal.seg1 Config.rT1).natAbs ≤ tolerance ∧
    (poly d.cal.seg1 Config.rT2 - poly d.cal.seg2 Config.rT2).natAbs ≤ tolerance

end Sys2Proof.Machine
end

