-- ==== Sys2Proof/Certificates/Slice0/Obligations.lean ====
section
/-! DEFINITION. The model's statements for the provers. The formulas of the spec that the statements compare the
machine with are written out once, in namespace Sys2Proof.Spec, from the rules and not from the model's own
functions. -/

namespace Sys2Proof.Spec

open Sys2Proof.Machine

/-- elapsed(a, b) = (a - b) mod 2^32, on integers (00_scope R10). -/
def elapsedTime (a b : Word) : Int := ((a.toNat : Int) - (b.toNat : Int)) % 2 ^ 32

/-- The segment polynomial as 42_calibration R131 writes it; `Int.tdiv` truncates toward zero (00_scope R10). -/
def segmentPolynomial (k : SegmentCoeffs) (r : Int) : Int :=
  ((k.a2 * r * r).tdiv k.d2 + (k.a1 * r).tdiv k.d1 + k.a0).tdiv k.d0

/-- The speed of an interval: 0 if stalled, else the clamped polynomial of the rate's segment
(42_calibration R130 to R135). -/
def calibratedSpeed (c : CfgData) (sI : Nat) : Int :=
  if sI = 0 then 0
  else if 100000000 / sI < 323 then max 0 (segmentPolynomial c.cal.seg0 (100000000 / sI : Nat))
  else if 100000000 / sI < 5436 then max 0 (segmentPolynomial c.cal.seg1 (100000000 / sI : Nat))
  else max 0 (segmentPolynomial c.cal.seg2 (100000000 / sI : Nat))

/-- SPD_LIM of the band of v (43_deviation R151). -/
def speedLimitAt (c : CfgData) (v : Int) : Int :=
  if v < c.bandLimit0.toInt then c.spdLim.band0.toInt
  else if v < c.bandLimit1.toInt then c.spdLim.band1.toInt
  else c.spdLim.band2.toInt

/-- DIR_LIM of the band of v (43_deviation R151). -/
def dirLimitAt (c : CfgData) (v : Int) : Nat :=
  if v < c.bandLimit0.toInt then c.dirLim.band0.toNat
  else if v < c.bandLimit1.toInt then c.dirLim.band1.toNat
  else c.dirLim.band2.toNat

/-- DIR_RAW (43_deviation R155). -/
def rawDirection (c : CfgData) (dI sI : Nat) : Nat := (dI * 360 / sI + c.dirOffset.toNat) % 360

/-- The gain step q = sign(delta) · ((|delta| · GAIN_Q8 + 128) >> 8) (44_smoother R172). -/
def gainStep (g : Nat) (delta : Int) : Int := delta.sign * ((delta.natAbs * g + 128) / 256 : Nat)

/-- The shortest-path delta (44_smoother R171). -/
def shortestPath (raw s : Int) : Int :=
  if raw - s < -180 then raw - s + 360 else if raw - s > 180 then raw - s - 360 else raw - s

/-- The smoothed direction: (s + q) mod 360 (44_smoother R172). -/
def smoothed (g : Nat) (s raw : Int) : Int := (s + gainStep g (shortestPath raw s)) % 360

/-- The state CONDITION leaves, from the pseudocode of 46_cycle R200, 43_deviation R153 and R156. -/
def afterCondition (s : State) : State :=
  let c := s.cfg.data
  let v := calibratedSpeed c s.sSpdInt.toNat
  let p : Int := if s.sSpdInt = 0#32 then 0 else s.prevSpeed.toInt
  let w : Word := BitVec.ofInt 32 v
  let raw := rawDirection c s.sDirInt.toNat s.sSpdInt.toNat
  let d := ((raw : Int) - s.prevDir.toNat).natAbs
  let limit := dirLimitAt c v
  if speedLimitAt c v ≤ ((v - p).natAbs : Int) then
    { s with prevSpeed := w, speedRej := true, dirStat := .notReached }
  else if s.sSpdInt = 0#32 ∨ s.sSpdInt.toNat < s.sDirInt.toNat then
    { s with prevSpeed := w, curSpeed := w, speedRej := false, dirStat := .skipped }
  else if d < limit ∨ 360 < d + limit then
    { s with
      prevSpeed := w, curSpeed := w, speedRej := false, dirStat := .accepted
      prevDir := BitVec.ofNat 9 raw
      smoothDir := BitVec.ofInt 9 (smoothed c.gainQ8.toNat s.smoothDir.toNat raw) }
  else
    { s with
      prevSpeed := w, curSpeed := w, speedRej := false, dirStat := .rejected
      prevDir := if c.prevDirPolicy = .onCompute then BitVec.ofNat 9 raw else s.prevDir }

/-- DEC(n) by the library's decimal digits (45_encoder R181). -/
def decimal (n : Nat) : List Byte := (Nat.toDigits 10 n).map (fun ch => BitVec.ofNat 8 ch.toNat)

/-- The ASCII codes of a text (00_scope R9). -/
def text (cs : List Char) : List Byte := cs.map (fun ch => BitVec.ofNat 8 ch.toNat)

/-- The body of a sentence (45_encoder R180). -/
def body (dir spd : Nat) : List Byte :=
  text ['W', 'I', 'M', 'W', 'V', ','] ++ decimal dir ++ text ['.', '0', ',', 'R', ','] ++
    decimal (spd / 100) ++ text ['.'] ++ decimal (spd % 100 / 10) ++ text [',', 'N', ',', 'A']

/-- The exclusive-or of all bytes (45_encoder R184). -/
def xorAll (bytes : List Byte) : Byte := bytes.foldr (fun b acc => b ^^^ acc) 0#8

/-- The character of a hexadecimal digit (45_encoder R185). -/
def hexCharacter (n : Nat) : Byte := BitVec.ofNat 8 (if n < 10 then '0'.toNat + n else 'A'.toNat + n - 10)

/-- A sentence (45_encoder R180). -/
def wholeSentence (dir spd : Nat) : List Byte :=
  text ['$'] ++ body dir spd ++ text ['*'] ++
    [hexCharacter ((xorAll (body dir spd)).toNat / 16), hexCharacter ((xorAll (body dir spd)).toNat % 16)]

/-- Every intermediate of R131 fits 64 bits and the result 32 (10_state R42 check 2). The list of intermediates is
the model's reading: DEDUCED, log entry 14. -/
def datapathHolds (k : SegmentCoeffs) (r : Int) : Prop :=
  let q := (k.a2 * r * r).tdiv k.d2
  let l := (k.a1 * r).tdiv k.d1
  (∀ x ∈ [k.a2 * r, k.a2 * r * r, q, k.a1 * r, l, q + l, q + l + k.a0, (q + l + k.a0).tdiv k.d0],
      -9223372036854775808 ≤ x ∧ x ≤ 9223372036854775807) ∧
    -2147483648 ≤ (q + l + k.a0).tdiv k.d0 ∧ (q + l + k.a0).tdiv k.d0 ≤ 2147483647

/-- The eight checks of 10_state R42, written out. -/
def passesChecks (c : CfgData) : Prop :=
  (∀ k ∈ [c.cal.seg0, c.cal.seg1, c.cal.seg2], 1 ≤ k.d2 ∧ 1 ≤ k.d1 ∧ 1 ≤ k.d0) ∧
  (∀ k ∈ [c.cal.seg0, c.cal.seg1, c.cal.seg2], ∀ r : Nat, r ≤ 100000000 / max 1 c.debounce.toNat →
    datapathHolds k r) ∧
  c.dirOffset.toNat ≤ 359 ∧
  (1 ≤ c.gainQ8.toNat ∧ c.gainQ8.toNat ≤ 256) ∧
  (1 ≤ c.bandLimit0.toInt ∧ c.bandLimit0.toInt < c.bandLimit1.toInt) ∧
  (∀ l ∈ [c.spdLim.band0, c.spdLim.band1, c.spdLim.band2], 1 ≤ l.toInt) ∧
  (∀ l ∈ [c.dirLim.band0, c.dirLim.band1, c.dirLim.band2], 1 ≤ l.toNat ∧ l.toNat ≤ 180) ∧
  c.diagMode = false

/-- The words that are operations (30_encoding R73). -/
def isOperation (i : Instr) : Bool :=
  match i with
  | .nop => true
  | .spdEdge _ => true
  | .dirEdge _ => true
  | .snapshot => true
  | .condition => true
  | .emit => true
  | .cycle => true
  | .reservedOp _ _ => false
  | .reservedBits _ _ _ => false

/-- The state with the `now` port's sample forgotten, so that two orders of the same operations can be
compared. -/
def withoutNow (s : State) : State := { s with nowPort := 0#32 }

end Sys2Proof.Spec

open Sys2Proof Sys2Proof.Machine

/-! ### Encoding -/

/-- Decode of encode is the identity, for every well-formed instruction with every operand (30_encoding R70,
R72, R73). -/
def Obligations.DecodeOfEncodeIsTheInstruction : Prop :=
  ∀ i : Instr, i.wf = true → decode (encode i) = i

/-- The nine words of 30_encoding R78, and that they are encoded so. -/
def Obligations.OperationWordsAreTheSpecsNine : Prop :=
  decode 0x00#8 = .nop ∧ decode 0x01#8 = .spdEdge .lo ∧ decode 0x09#8 = .spdEdge .hi ∧
  decode 0x02#8 = .dirEdge .lo ∧ decode 0x0A#8 = .dirEdge .hi ∧ decode 0x03#8 = .snapshot ∧
  decode 0x04#8 = .condition ∧ decode 0x05#8 = .emit ∧ decode 0x06#8 = .cycle ∧
  encode .nop = 0x00#8 ∧ encode (.spdEdge .lo) = 0x01#8 ∧ encode (.spdEdge .hi) = 0x09#8 ∧
  encode (.dirEdge .lo) = 0x02#8 ∧ encode (.dirEdge .hi) = 0x0A#8 ∧ encode .snapshot = 0x03#8 ∧
  encode .condition = 0x04#8 ∧ encode .emit = 0x05#8 ∧ encode .cycle = 0x06#8

/-- Which of the 256 words are operations and which reserved class each other word has: OPC = 111 first
(30_encoding R73; 60_exceptions R221). -/
def Obligations.ReservedWordsDecodeByTheirReason : Prop :=
  (∀ w : Byte, w.toNat % 8 = 7 → ∃ rsv lvl, decode w = .reservedOp rsv lvl) ∧
  (∀ w : Byte, w.toNat % 8 ≠ 7 → 16 ≤ w.toNat → ∃ rsv lvl opc, decode w = .reservedBits rsv lvl opc) ∧
  (∀ w : Byte, w.toNat % 8 ≠ 7 → w.toNat % 8 ≠ 1 → w.toNat % 8 ≠ 2 → w.toNat / 8 % 2 = 1 →
    ∃ rsv lvl opc, decode w = .reservedBits rsv lvl opc) ∧
  ((List.range 256).filter (fun n => Spec.isOperation (decode (BitVec.ofNat 8 n)))).length = 9

/-- Every word decodes to a well-formed term that encodes back to it: no bit of a word is dropped (30_encoding
R70, R73). -/
def Obligations.EncodeOfDecodeIsTheWord : Prop :=
  ∀ w : Byte, (decode w).wf = true ∧ encode (decode w) = w

/-- The pseudo-operations SPD and DIR, at every time: the line is the LO edge and its word is 0x01 or 0x02
(30_encoding R77). -/
def Obligations.PseudoOperationsExpandToLowEdges : Prop :=
  ∀ t : Word,
    (∃ o, parseLine (Nat.toDigits 10 t.toNat ++ [':', ' ', 'S', 'P', 'D']) = .ok (some o) ∧
      o.instr = .spdEdge .lo ∧ o.input = .op 0x01#8 t) ∧
    (∃ o, parseLine (Nat.toDigits 10 t.toNat ++ [':', ' ', 'D', 'I', 'R']) = .ok (some o) ∧
      o.instr = .dirEdge .lo ∧ o.input = .op 0x02#8 t)

/-! ### The step, reset and configuration -/

/-- A step at a presented operation word is that operation, with its sample on the `now` port and the host's next
input taken (10_state R39; 30_encoding R71). -/
def Obligations.StepRunsThePresentedOperation : Prop :=
  ∀ (s : State) (i : Instr) (t : Word) (rest : List HostInput), i.wf = true →
    s.inputs = .op (encode i) t :: rest → step s = exec i { s with nowPort := t, inputs := rest }

/-- With nothing presented the state is held (60_exceptions R231). The empty input list, and that a step with
nothing presented is a step at all, are the model's (log entry 1). -/
def Obligations.NothingPresentedChangesNothing : Prop :=
  ∀ s : State, s.inputs = [] → step s = .next s

/-- Reset sets every register to its reset value and leaves CFG (70_reset_and_hazards R250). That the `now` port's
latch is cleared too is the model's choice (log entry 10). -/
def Obligations.ResetSetsEveryRegister : Prop :=
  ∀ (s : State) (rest : List HostInput), s.inputs = .rst :: rest →
    step s = .next
      { cfg := s.cfg, spdTs := 0#32, dirTs := 0#32, spdInt := 0#32, dirInt := 0#32, newData := false,
        sSpdTs := 0#32, sDirTs := 0#32, sSpdInt := 0#32, sDirInt := 0#32, prevSpeed := 0#32, prevDir := 0#9,
        smoothDir := 0#9, curSpeed := 0#32, speedRej := false, dirStat := .notReached, stall := false,
        lastEmit := 0#32, out := [], fault := false, faultReason := .none, nowPort := 0#32, inputs := rest }

/-- What the ports read after reset, and the first EMIT, the first SNAPSHOT and the CONDITION after it
(70_reset_and_hazards R251), under every configuration and at every time. -/
def Obligations.FirstOperationsAfterReset : Prop :=
  ∀ (c : Cfg) (t u : Word),
    let r : State := { State.reset with cfg := c, nowPort := t }
    r.status = 0x00#8 ∧ r.speedOut = 0#32 ∧ r.dirOut = 0#9 ∧
    (∃ s, exec .emit r = .next s ∧
      s.out = Spec.text ['$', 'W', 'I', 'M', 'W', 'V', ',', '0', '.', '0', ',', 'R', ',', '0', '.', '0', ',',
        'N', ',', 'A', '*', '2', '3']) ∧
    (∃ s1 s2, exec .snapshot r = .next s1 ∧ s1.sSpdInt = 0#32 ∧ s1.stall = true ∧
      exec .condition { s1 with nowPort := u } = .next s2 ∧
      s2.curSpeed = 0#32 ∧ s2.speedRej = false ∧ s2.dirStat = .skipped)

/-- Every step answers a next state: no fault and no refusal stops PECD (60_exceptions R220). -/
def Obligations.EveryStepAnswersANextState : Prop :=
  ∀ s : State, ∃ t, step s = .next t

/-- No step writes the configuration, reset included (10_state R41; 70_reset_and_hazards R250). -/
def Obligations.NoStepWritesTheConfiguration : Prop :=
  ∀ s t : State, step s = .next t → t.cfg = s.cfg

/-- Boot refuses exactly the configurations that fail one of the eight checks, and otherwise leaves the reset
state with that configuration (10_state R42; 70_reset_and_hazards R252). Which partial results check 2 bounds
(`Spec.datapathHolds`: CAL_A2·r and the partial sum among them, left to right) is the model's reading of R42, which
does not list them: log entry 14. -/
def Obligations.BootRefusesExactlyTheFailingConfigurations : Prop :=
  ∀ (d : CfgData) (inputs : List HostInput),
    (Spec.passesChecks d → ∃ c : Cfg, c.data = d ∧
      boot d inputs = .next { State.reset with cfg := c, inputs := inputs }) ∧
    (¬ Spec.passesChecks d → boot d inputs = .refused .configurationRefused)

/-! ### The invariant -/

/-- The invariant holds right after reset. -/
def Obligations.ResetMeetsTheInvariant : Prop :=
  State.reset.Inv

/-- Every step from a state that meets the invariant leaves one that meets it: intervals zero or at least
DEBOUNCE, speeds not negative, directions in [0, 359], the flags in agreement, OUT 7-bit ASCII. -/
def Obligations.EveryStepKeepsTheInvariant : Prop :=
  ∀ s t : State, s.Inv → step s = .next t → t.Inv

/-! ### Edge capture -/

/-- SPD_EDGE: its words, and on every path the state after, written out, so that its frame is in it
(40_capture R102). -/
def Obligations.SpeedEdgeResult : Prop :=
  decode 0x01#8 = .spdEdge .lo ∧ decode 0x09#8 = .spdEdge .hi ∧
  ∀ (s : State) (lvl : Level),
    exec (.spdEdge lvl) s = .next
      (if lvl = .hi ∨ Spec.elapsedTime s.nowPort s.spdTs < s.cfg.data.debounce.toNat then s
       else { s with
         spdInt := BitVec.ofInt 32 (Spec.elapsedTime s.nowPort s.spdTs)
         dirInt := if s.dirTs.toNat < s.spdTs.toNat then s.dirInt
           else BitVec.ofNat 32 (s.dirTs.toNat - s.spdTs.toNat)
         newData := true
         spdTs := s.nowPort })

/-- DIR_EDGE: its words, and on every path the state after, frame included (40_capture R104). -/
def Obligations.DirectionEdgeResult : Prop :=
  decode 0x02#8 = .dirEdge .lo ∧ decode 0x0A#8 = .dirEdge .hi ∧
  ∀ (s : State) (lvl : Level),
    exec (.dirEdge lvl) s = .next
      (if lvl = .hi ∨ Spec.elapsedTime s.nowPort s.dirTs < s.cfg.data.debounce.toNat then s
       else { s with dirTs := s.nowPort })

/-- Only the edge operations write the capture registers, but for SNAPSHOT's clearing of NEW_DATA, which CYCLE
contains (10_state R27). -/
def Obligations.CaptureRegistersHaveFewWriters : Prop :=
  ∀ (i : Instr) (s t : State), exec i s = .next t → (∀ lvl, i ≠ .spdEdge lvl) → (∀ lvl, i ≠ .dirEdge lvl) →
    (i ≠ .snapshot → i ≠ .cycle → t.captureRegs = s.captureRegs) ∧
    (i = .snapshot ∨ i = .cycle →
      t.captureRegs = (s.spdTs, s.dirTs, s.spdInt, s.dirInt, false))

/-- The edge operations write nothing but the capture registers (40_capture R105). -/
def Obligations.EdgesWriteOnlyCaptureRegisters : Prop :=
  ∀ (i : Instr) (lvl : Level) (s : State), i = .spdEdge lvl ∨ i = .dirEdge lvl →
    ∃ t, exec i s = .next t ∧
      t = { s with spdTs := t.spdTs, dirTs := t.dirTs, spdInt := t.spdInt, dirInt := t.dirInt,
                   newData := t.newData }

/-- A speed edge and a direction edge in the same microsecond, both accepted, in both orders (60_exceptions R224):
with the direction edge first the direction interval is the whole rotation; with the speed edge first the next
accepted speed edge measures zero. -/
def Obligations.SimultaneousEdgesInBothOrders : Prop :=
  ∀ (s : State) (t t' : Word), s.spdTs.toNat ≤ t.toNat →
    (s.cfg.data.debounce.toNat : Int) ≤ Spec.elapsedTime t s.spdTs →
    (s.cfg.data.debounce.toNat : Int) ≤ Spec.elapsedTime t s.dirTs →
    (s.cfg.data.debounce.toNat : Int) ≤ Spec.elapsedTime t' t →
    (∃ u, Host.Core.run core 2 { s with inputs := [.op 0x02#8 t, .op 0x01#8 t] } = .next u ∧
      u.spdInt.toNat = t.toNat - s.spdTs.toNat ∧ u.dirInt = u.spdInt) ∧
    (∃ u, Host.Core.run core 3
        { s with inputs := [.op 0x01#8 t, .op 0x02#8 t, .op 0x01#8 t'] } = .next u ∧
      u.dirInt = 0#32 ∧ u.spdTs = t')

/-! ### Snapshot -/

/-- SNAPSHOT, its word and its frame: the copies, the strict timeout, STALL, NEW_DATA (41_snapshot R120, R121). -/
def Obligations.SnapshotResult : Prop :=
  decode 0x03#8 = .snapshot ∧
  ∀ s : State,
    let interval := if (s.cfg.data.timeout.toNat : Int) < Spec.elapsedTime s.nowPort s.spdTs then 0#32
      else s.spdInt
    exec .snapshot s = .next
      { s with
        sSpdTs := s.spdTs, sDirTs := s.dirTs, sSpdInt := interval, sDirInt := s.dirInt
        newData := false
        stall := decide (interval.toNat = 0) }

/-- Two snapshots with no edge between them: the same copies, and the same S_SPD_INT unless the timeout test
answers differently (41_snapshot R122). -/
def Obligations.RepeatedSnapshotIsIdempotent : Prop :=
  ∀ (s s1 s2 : State) (t2 : Word), exec .snapshot s = .next s1 →
    exec .snapshot { s1 with nowPort := t2 } = .next s2 →
    s2.sSpdTs = s1.sSpdTs ∧ s2.sDirTs = s1.sDirTs ∧ s2.sDirInt = s1.sDirInt ∧
    (((s.cfg.data.timeout.toNat : Int) < Spec.elapsedTime s.nowPort s1.sSpdTs ↔
        (s.cfg.data.timeout.toNat : Int) < Spec.elapsedTime t2 s1.sSpdTs) → s2.sSpdInt = s1.sSpdInt) ∧
    (Spec.elapsedTime s.nowPort s1.sSpdTs ≤ s.cfg.data.timeout.toNat →
      (s.cfg.data.timeout.toNat : Int) < Spec.elapsedTime t2 s1.sSpdTs →
      s1.sSpdInt = s.spdInt ∧ s2.sSpdInt = 0#32)

/-! ### Calibration -/

/-- Which polynomial an interval selects, by the interval itself: up to 18395 µs segment 2, up to 309597 µs
segment 1, above it segment 0 (42_calibration R130, R132, R135). -/
def Obligations.CalibratorSelectsTheSegmentByInterval : Prop :=
  ∀ (c : CfgData) (sI : Word), sI ≠ 0#32 →
    cal c sI = max 0 (Spec.segmentPolynomial
      (if sI.toNat ≤ 18395 then c.cal.seg2 else if sI.toNat ≤ 309597 then c.cal.seg1 else c.cal.seg0)
      (100000000 / sI.toNat : Nat))

/-- If the calibration is monotone in the rate (a premise, not a fact of any configuration), a longer interval
of the same segment, not below DEBOUNCE, gives no higher speed (42_calibration R136). -/
def Obligations.MonotoneCalibrationOrdersIntervals : Prop :=
  ∀ (c : CfgData) (sI sI' : Word), CalMonotone c → sI ≠ 0#32 → c.debounce.toNat ≤ sI.toNat →
    sI.toNat ≤ sI'.toNat →
    (sI'.toNat ≤ 18395 ∨ (18395 < sI.toNat ∧ sI'.toNat ≤ 309597) ∨ 309597 < sI.toNat) →
    cal c sI' ≤ cal c sI

/-! ### Conditioning -/

/-- CONDITION, its word, every path and its frame, for a snapshot interval that is zero or at least DEBOUNCE (an
invariant: EveryStepKeepsTheInvariant): 46_cycle R200 with 42_calibration R135, 43_deviation R150 to R156 and
44_smoother R172. -/
def Obligations.ConditionResult : Prop :=
  decode 0x04#8 = .condition ∧
  ∀ s : State, intervalOk s.cfg.data s.sSpdInt → exec .condition s = .next (Spec.afterCondition s)

/-- A stalled cycle accepts speed 0 whatever the previous speed was, and leaves the direction registers
(43_deviation R150, R154). -/
def Obligations.StalledConditionReportsZeroSpeed : Prop :=
  ∀ s : State, s.sSpdInt = 0#32 →
    exec .condition s = .next
      { s with prevSpeed := 0#32, curSpeed := 0#32, speedRej := false, dirStat := .skipped }

/-- A rejected speed is accepted by the next cycle that repeats it (43_deviation R153, corner case 3). -/
def Obligations.RejectedSpeedIsAcceptedWhenRepeated : Prop :=
  ∀ s t : State, intervalOk s.cfg.data s.sSpdInt → exec .condition s = .next t → t.speedRej = true →
    t.curSpeed = s.curSpeed ∧
    ∃ u, exec .condition t = .next u ∧ u.speedRej = false ∧ u.curSpeed = t.prevSpeed

/-- Under ON_COMPUTE a rejected direction is accepted by the next cycle on the same snapshot (43_deviation R156,
corner case 5). -/
def Obligations.RejectedDirectionIsConfirmedOnCompute : Prop :=
  ∀ s t : State, intervalOk s.cfg.data s.sSpdInt → s.cfg.data.prevDirPolicy = .onCompute →
    exec .condition s = .next t → t.dirStat = .rejected →
    ∃ u, exec .condition t = .next u ∧ u.dirStat = .accepted ∧ u.prevDir = t.prevDir

/-- Under ON_ACCEPT a rejected direction is rejected again by the next cycle on the same snapshot, and the
direction registers do not move (43_deviation R156, corner case 5). -/
def Obligations.RejectedDirectionStaysLockedOnAccept : Prop :=
  ∀ s t : State, intervalOk s.cfg.data s.sSpdInt → s.cfg.data.prevDirPolicy = .onAccept →
    exec .condition s = .next t → t.dirStat = .rejected →
    ∃ u, exec .condition t = .next u ∧ u.dirStat = .rejected ∧ u.prevDir = s.prevDir ∧
      u.smoothDir = s.smoothDir

/-- A second pass over an accepted snapshot repeats everything but the smoothing, which moves on (46_cycle R200,
corner case 2; 70_reset_and_hazards R255). -/
def Obligations.SecondConditionOnlySmoothsAgain : Prop :=
  ∀ s t : State, intervalOk s.cfg.data s.sSpdInt → exec .condition s = .next t → t.dirStat = .accepted →
    exec .condition t = .next
      { t with smoothDir := BitVec.ofInt 9 (Spec.smoothed t.cfg.data.gainQ8.toNat t.smoothDir.toNat
          (Spec.rawDirection t.cfg.data t.sDirInt.toNat t.sSpdInt.toNat)) }

/-- CONDITION reads no capture register and not the time sample: changing them before it changes nothing else
after it (20_memory R57; 46_cycle R200). -/
def Obligations.ConditionReadsOnlyTheSnapshot : Prop :=
  ∀ (s t : State) (a b c d now : Word) (n : Bool), exec .condition s = .next t →
    exec .condition { s with spdTs := a, dirTs := b, spdInt := c, dirInt := d, newData := n, nowPort := now } =
      .next { t with spdTs := a, dirTs := b, spdInt := c, dirInt := d, newData := n, nowPort := now }

/-- The filter registers change only in CONDITION, and in CYCLE, which runs it (46_cycle R201). -/
def Obligations.FilterRegistersChangeOnlyInConditioning : Prop :=
  ∀ (i : Instr) (s t : State), exec i s = .next t → i ≠ .condition → i ≠ .cycle →
    t.filterRegs = s.filterRegs ∧ t.speedRej = s.speedRej ∧ t.dirStat = s.dirStat

/-- SMOOTH_DIR changes only in a cycle whose direction was accepted (44_smoother R170). -/
def Obligations.SmoothedDirectionMovesOnlyWhenAccepted : Prop :=
  ∀ (i : Instr) (s t : State), i = .condition ∨ i = .cycle → exec i s = .next t →
    t.dirStat ≠ .accepted → t.smoothDir = s.smoothDir

/-- The direction computation: the product's bound, the quotient's range and when it is 360, and the range of
DIR_RAW (43_deviation R155). -/
def Obligations.RawDirectionIsInRange : Prop :=
  ∀ s : State, s.sSpdInt ≠ 0#32 → s.sDirInt.toNat ≤ s.sSpdInt.toNat →
    s.sDirInt.toNat * 360 < 2 ^ 41 ∧
    s.sDirInt.toNat * 360 / s.sSpdInt.toNat ≤ 360 ∧
    (s.sDirInt.toNat * 360 / s.sSpdInt.toNat = 360 ↔ s.sDirInt = s.sSpdInt) ∧
    dirRaw s = (s.sDirInt.toNat * 360 / s.sSpdInt.toNat + s.cfg.data.dirOffset.toNat) % 360 ∧
    s.cfg.data.dirOffset.toNat ≤ 359 ∧
    s.sDirInt.toNat * 360 / s.sSpdInt.toNat + s.cfg.data.dirOffset.toNat ≤ 719 ∧
    0 ≤ dirRaw s ∧ dirRaw s ≤ 359 ∧
    (s.sDirInt = s.sSpdInt ∨ s.sDirInt = 0#32 → dirRaw s = s.cfg.data.dirOffset.toNat)

/-! ### Smoother -/

/-- The shortest path: within half a turn, the same angle, and unchanged where it already is (both half turns
included) (44_smoother R171). -/
def Obligations.ShortestDeltaIsWithinHalfATurn : Prop :=
  ∀ raw s : Int, 0 ≤ raw → raw ≤ 359 → 0 ≤ s → s ≤ 359 →
    -180 ≤ shortestDelta raw s ∧ shortestDelta raw s ≤ 180 ∧
    (shortestDelta raw s - (raw - s)) % 360 = 0 ∧
    ((raw - s).natAbs ≤ 180 → shortestDelta raw s = raw - s)

/-- The smoother is (s + q) mod 360 with the one correction it makes (44_smoother R172). -/
def Obligations.SmootherIsTheModularStep : Prop :=
  ∀ (g : Nat) (s raw : Int), 1 ≤ g → g ≤ 256 → 0 ≤ s → s ≤ 359 → 0 ≤ raw → raw ≤ 359 →
    smooth g s raw = Spec.smoothed g s raw

/-- Gain 1.0 disables filtering (44_smoother R172, corner case 1). -/
def Obligations.FullGainDisablesFiltering : Prop :=
  ∀ s raw : Int, 0 ≤ s → s ≤ 359 → 0 ≤ raw → raw ≤ 359 → smooth 256 s raw = raw

/-- The gain step is round-half-away-from-zero of delta · GAIN_Q8 / 256 (44_smoother R173). -/
def Obligations.GainStepRoundsHalfAwayFromZero : Prop :=
  ∀ (g : Nat) (delta : Int), g ≤ 256 → delta.natAbs ≤ 180 →
    gainRound g delta = delta.sign * ⌊((delta.natAbs * g : Nat) : ℚ) / 256 + 1 / 2⌋

/-! ### Encoder -/

/-- EMIT, its word and its frame: the sentence of 45_encoder R180 appended to OUT, LAST_EMIT <- now (R186), for a speed
that is not negative (an invariant: EveryStepKeepsTheInvariant). -/
def Obligations.EmitResult : Prop :=
  decode 0x05#8 = .emit ∧
  ∀ s : State, 0 ≤ s.curSpeed.toInt →
    exec .emit s = .next
      { s with
        out := s.out ++ Spec.wholeSentence s.smoothDir.toNat s.curSpeed.toNat
        lastEmit := s.nowPort }

/-- DEC is the shortest decimal representation: at least one digit and digits only, the value is n, no leading
zero but in "0" (45_encoder R181). -/
def Obligations.DecimalIsShortest : Prop :=
  dec 0 = [0x30#8] ∧
  ∀ n : Nat,
    dec n ≠ [] ∧
    (∀ b ∈ dec n, 0x30 ≤ b.toNat ∧ b.toNat ≤ 0x39) ∧
    (dec n).foldl (fun acc b => 10 * acc + (b.toNat - 0x30)) 0 = n ∧
    ((dec n).head? = some 0x30#8 → dec n = [0x30#8])

/-- HEX2 is two uppercase hexadecimal digits of the byte, high nibble first, padded (45_encoder R185). -/
def Obligations.HexPairIsTwoUppercaseDigits : Prop :=
  ∀ c : Byte, hex2 c = [Spec.hexCharacter (c.toNat / 16), Spec.hexCharacter (c.toNat % 16)]

/-- Every checksum of a sentence lies in [0x10, 0x2F] (45_encoder R185). -/
def Obligations.SentenceChecksumRange : Prop :=
  ∀ dir spd : Nat,
    0x10 ≤ (checksum (sentenceBody dir spd)).toNat ∧ (checksum (sentenceBody dir spd)).toNat ≤ 0x2F

/-- A sentence is between 23 and 32 bytes long (45_encoder R186, corner case 5). -/
def Obligations.SentenceLengthBounds : Prop :=
  ∀ dir spd : Nat, dir ≤ 359 → spd ≤ 2147483647 →
    23 ≤ (sentence dir spd).length ∧ (sentence dir spd).length ≤ 32

/-- A sentence is '$', a body, '*' and two characters; the body holds neither delimiter, and no byte is a line
terminator or above 7-bit ASCII: the host can tell where each sentence ends (45_encoder R180, R187). -/
def Obligations.SentenceDelimitersAreUnique : Prop :=
  ∀ dir spd : Nat, ∃ (b : List Byte) (h l : Byte),
    sentence dir spd = 0x24#8 :: (b ++ [0x2A#8, h, l]) ∧
    h ≠ 0x2A#8 ∧ l ≠ 0x2A#8 ∧ h ≠ 0x24#8 ∧ l ≠ 0x24#8 ∧
    (∀ x ∈ b, x ≠ 0x2A#8 ∧ x ≠ 0x24#8) ∧
    (∀ x ∈ sentence dir spd, x.toNat < 128 ∧ x ≠ 0x0D#8 ∧ x ≠ 0x0A#8)

/-- OUT is append-only, and OUT and LAST_EMIT are written by EMIT and CYCLE alone (10_state R36, R37). -/
def Obligations.OutputOnlyGrows : Prop :=
  ∀ (i : Instr) (s t : State), exec i s = .next t →
    (∃ bytes, t.out = s.out ++ bytes) ∧
    (i ≠ .emit → i ≠ .cycle → t.out = s.out ∧ t.lastEmit = s.lastEmit)

/-! ### Cycle -/

/-- CYCLE, the word 0x06, is SNAPSHOT, then CONDITION, then EMIT exactly when the rate limit allows (46_cycle R202). -/
def Obligations.CycleIsSnapshotConditionEmit : Prop :=
  decode 0x06#8 = .cycle ∧
  ∀ s : State, ∃ s1 s2 s3, exec .snapshot s = .next s1 ∧ exec .condition s1 = .next s2 ∧
    exec .emit s2 = .next s3 ∧
    exec .cycle s = .next
      (if (s.cfg.data.emitPeriod.toNat : Int) ≤ Spec.elapsedTime s.nowPort s.lastEmit then s3 else s2)

/-- Making the whole of CYCLE one step loses no behaviour: an edge placed right after its SNAPSHOT part, before
CONDITION and the emission, gives the same state as the edge placed after the whole CYCLE (46_cycle R202). -/
def Obligations.CycleAtomicityLosesNoBehaviour : Prop :=
  ∀ (s : State) (line : EdgeLine) (lvl : Level) (t te : Word),
    let edge := line.present lvl te
    ((s.cfg.data.emitPeriod.toNat : Int) ≤ Spec.elapsedTime t s.lastEmit →
      ∃ u v,
        Host.Core.run core 4 { s with inputs := [.op 0x03#8 t, edge, .op 0x04#8 t, .op 0x05#8 t] } = .next u ∧
        Host.Core.run core 2 { s with inputs := [.op 0x06#8 t, edge] } = .next v ∧
        Spec.withoutNow u = Spec.withoutNow v) ∧
    (Spec.elapsedTime t s.lastEmit < s.cfg.data.emitPeriod.toNat →
      ∃ u v,
        Host.Core.run core 3 { s with inputs := [.op 0x03#8 t, edge, .op 0x04#8 t] } = .next u ∧
        Host.Core.run core 2 { s with inputs := [.op 0x06#8 t, edge] } = .next v ∧
        Spec.withoutNow u = Spec.withoutNow v)

/-- A CYCLE presented more than TIMEOUT after the last accepted speed edge reports the stall: speed 0, direction
left alone (60_exceptions R222; 41_snapshot R121; 70_reset_and_hazards R261). -/
def Obligations.TimedOutCycleReportsTheStall : Prop :=
  ∀ s : State, (s.cfg.data.timeout.toNat : Int) < Spec.elapsedTime s.nowPort s.spdTs →
    ∃ t, exec .cycle s = .next t ∧ t.stall = true ∧ t.sSpdInt = 0#32 ∧ t.curSpeed = 0#32 ∧
      t.prevSpeed = 0#32 ∧ t.speedRej = false ∧ t.dirStat = .skipped ∧ t.smoothDir = s.smoothDir ∧
      t.prevDir = s.prevDir ∧ t.spdInt = s.spdInt

/-! ### Faults, NOP, status -/

/-- An ill-formed word sets FAULT and FAULT_REASON and changes nothing else, one reason a word: the executions of
the two reserved classes, and which word is which (60_exceptions R220, R221). -/
def Obligations.IllFormedWordsRaiseTheFault : Prop :=
  (∀ (s : State) (rsv : BitVec 4) (lvl : Level),
    exec (.reservedOp rsv lvl) s = .next { s with fault := true, faultReason := .reservedOp }) ∧
  (∀ (s : State) (rsv : BitVec 4) (lvl : Level) (opc : BitVec 3),
    exec (.reservedBits rsv lvl opc) s = .next { s with fault := true, faultReason := .reservedBits }) ∧
  (∀ (s : State) (w : Byte) (t : Word) (rest : List HostInput), s.inputs = .op w t :: rest →
    w ∉ [0x00#8, 0x01#8, 0x09#8, 0x02#8, 0x0A#8, 0x03#8, 0x04#8, 0x05#8, 0x06#8] →
    step s = .next
      { s with
        nowPort := t, inputs := rest, fault := true
        faultReason := if w.toNat % 8 = 7 then .reservedOp else .reservedBits })

/-- The fault is sticky: once set, only reset clears it; the operations other than ill-formed words leave both
fault registers alone (60_exceptions R220; 10_state R38). -/
def Obligations.FaultIsStickyUntilReset : Prop :=
  (∀ s t : State, step s = .next t → s.fault = true → t.fault = true ∨ ∃ rest, s.inputs = .rst :: rest) ∧
  (∀ (i : Instr) (s t : State), Spec.isOperation i = true → exec i s = .next t → t.faultRegs = s.faultRegs)

/-- NOP leaves every register unchanged; 0x00 is its word and 0x08 is not (46_cycle R203). -/
def Obligations.NopChangesNothing : Prop :=
  decode 0x00#8 = .nop ∧ (∃ rsv lvl opc, decode 0x08#8 = .reservedBits rsv lvl opc) ∧
  ∀ s : State, exec .nop s = .next s

/-- STATUS, bit by bit, and its reset value (10_state R40). -/
def Obligations.StatusShowsTheFlags : Prop :=
  State.reset.status = 0x00#8 ∧
  ∀ s : State,
    s.status.getLsbD 0 = s.newData ∧ s.status.getLsbD 1 = s.speedRej ∧
    s.status.extractLsb' 2 2 =
      (match s.dirStat with
        | .notReached => 0b00#2 | .accepted => 0b01#2 | .rejected => 0b10#2 | .skipped => 0b11#2) ∧
    s.status.getLsbD 4 = s.stall ∧ s.status.getLsbD 5 = s.fault ∧
    s.status.getLsbD 6 = false ∧ s.status.getLsbD 7 = false
end

