-- ==== Sys2Proof/Laws/State.lean ====
section
/-! SUPPORT. One lemma per field per register update of Machine/Ops.lean, true by rfl: a later proof cites these and
unfolds no record update. -/

namespace Sys2Proof.Machine

/-! ### State.captureSpeed -/

@[simp] theorem State.captureSpeed_cfg (s : State) (e d t : Word) : (s.captureSpeed e d t).cfg = s.cfg := rfl
@[simp] theorem State.captureSpeed_spdTs (s : State) (e d t : Word) : (s.captureSpeed e d t).spdTs = t := rfl
@[simp] theorem State.captureSpeed_dirTs (s : State) (e d t : Word) :
    (s.captureSpeed e d t).dirTs = s.dirTs := rfl
@[simp] theorem State.captureSpeed_spdInt (s : State) (e d t : Word) :
    (s.captureSpeed e d t).spdInt = e := rfl
@[simp] theorem State.captureSpeed_dirInt (s : State) (e d t : Word) :
    (s.captureSpeed e d t).dirInt = d := rfl
@[simp] theorem State.captureSpeed_newData (s : State) (e d t : Word) :
    (s.captureSpeed e d t).newData = true := rfl
@[simp] theorem State.captureSpeed_sSpdTs (s : State) (e d t : Word) :
    (s.captureSpeed e d t).sSpdTs = s.sSpdTs := rfl
@[simp] theorem State.captureSpeed_sDirTs (s : State) (e d t : Word) :
    (s.captureSpeed e d t).sDirTs = s.sDirTs := rfl
@[simp] theorem State.captureSpeed_sSpdInt (s : State) (e d t : Word) :
    (s.captureSpeed e d t).sSpdInt = s.sSpdInt := rfl
@[simp] theorem State.captureSpeed_sDirInt (s : State) (e d t : Word) :
    (s.captureSpeed e d t).sDirInt = s.sDirInt := rfl
@[simp] theorem State.captureSpeed_prevSpeed (s : State) (e d t : Word) :
    (s.captureSpeed e d t).prevSpeed = s.prevSpeed := rfl
@[simp] theorem State.captureSpeed_prevDir (s : State) (e d t : Word) :
    (s.captureSpeed e d t).prevDir = s.prevDir := rfl
@[simp] theorem State.captureSpeed_smoothDir (s : State) (e d t : Word) :
    (s.captureSpeed e d t).smoothDir = s.smoothDir := rfl
@[simp] theorem State.captureSpeed_curSpeed (s : State) (e d t : Word) :
    (s.captureSpeed e d t).curSpeed = s.curSpeed := rfl
@[simp] theorem State.captureSpeed_speedRej (s : State) (e d t : Word) :
    (s.captureSpeed e d t).speedRej = s.speedRej := rfl
@[simp] theorem State.captureSpeed_dirStat (s : State) (e d t : Word) :
    (s.captureSpeed e d t).dirStat = s.dirStat := rfl
@[simp] theorem State.captureSpeed_stall (s : State) (e d t : Word) :
    (s.captureSpeed e d t).stall = s.stall := rfl
@[simp] theorem State.captureSpeed_lastEmit (s : State) (e d t : Word) :
    (s.captureSpeed e d t).lastEmit = s.lastEmit := rfl
@[simp] theorem State.captureSpeed_out (s : State) (e d t : Word) : (s.captureSpeed e d t).out = s.out := rfl
@[simp] theorem State.captureSpeed_fault (s : State) (e d t : Word) :
    (s.captureSpeed e d t).fault = s.fault := rfl
@[simp] theorem State.captureSpeed_faultReason (s : State) (e d t : Word) :
    (s.captureSpeed e d t).faultReason = s.faultReason := rfl
@[simp] theorem State.captureSpeed_nowPort (s : State) (e d t : Word) :
    (s.captureSpeed e d t).nowPort = s.nowPort := rfl
@[simp] theorem State.captureSpeed_inputs (s : State) (e d t : Word) :
    (s.captureSpeed e d t).inputs = s.inputs := rfl

/-! ### State.captureDir -/

@[simp] theorem State.captureDir_cfg (s : State) (t : Word) : (s.captureDir t).cfg = s.cfg := rfl
@[simp] theorem State.captureDir_spdTs (s : State) (t : Word) : (s.captureDir t).spdTs = s.spdTs := rfl
@[simp] theorem State.captureDir_dirTs (s : State) (t : Word) : (s.captureDir t).dirTs = t := rfl
@[simp] theorem State.captureDir_spdInt (s : State) (t : Word) : (s.captureDir t).spdInt = s.spdInt := rfl
@[simp] theorem State.captureDir_dirInt (s : State) (t : Word) : (s.captureDir t).dirInt = s.dirInt := rfl
@[simp] theorem State.captureDir_newData (s : State) (t : Word) : (s.captureDir t).newData = s.newData := rfl
@[simp] theorem State.captureDir_sSpdTs (s : State) (t : Word) : (s.captureDir t).sSpdTs = s.sSpdTs := rfl
@[simp] theorem State.captureDir_sDirTs (s : State) (t : Word) : (s.captureDir t).sDirTs = s.sDirTs := rfl
@[simp] theorem State.captureDir_sSpdInt (s : State) (t : Word) : (s.captureDir t).sSpdInt = s.sSpdInt := rfl
@[simp] theorem State.captureDir_sDirInt (s : State) (t : Word) : (s.captureDir t).sDirInt = s.sDirInt := rfl
@[simp] theorem State.captureDir_prevSpeed (s : State) (t : Word) :
    (s.captureDir t).prevSpeed = s.prevSpeed := rfl
@[simp] theorem State.captureDir_prevDir (s : State) (t : Word) : (s.captureDir t).prevDir = s.prevDir := rfl
@[simp] theorem State.captureDir_smoothDir (s : State) (t : Word) :
    (s.captureDir t).smoothDir = s.smoothDir := rfl
@[simp] theorem State.captureDir_curSpeed (s : State) (t : Word) :
    (s.captureDir t).curSpeed = s.curSpeed := rfl
@[simp] theorem State.captureDir_speedRej (s : State) (t : Word) :
    (s.captureDir t).speedRej = s.speedRej := rfl
@[simp] theorem State.captureDir_dirStat (s : State) (t : Word) : (s.captureDir t).dirStat = s.dirStat := rfl
@[simp] theorem State.captureDir_stall (s : State) (t : Word) : (s.captureDir t).stall = s.stall := rfl
@[simp] theorem State.captureDir_lastEmit (s : State) (t : Word) :
    (s.captureDir t).lastEmit = s.lastEmit := rfl
@[simp] theorem State.captureDir_out (s : State) (t : Word) : (s.captureDir t).out = s.out := rfl
@[simp] theorem State.captureDir_fault (s : State) (t : Word) : (s.captureDir t).fault = s.fault := rfl
@[simp] theorem State.captureDir_faultReason (s : State) (t : Word) :
    (s.captureDir t).faultReason = s.faultReason := rfl
@[simp] theorem State.captureDir_nowPort (s : State) (t : Word) : (s.captureDir t).nowPort = s.nowPort := rfl
@[simp] theorem State.captureDir_inputs (s : State) (t : Word) : (s.captureDir t).inputs = s.inputs := rfl

/-! ### State.copyCapture -/

@[simp] theorem State.copyCapture_cfg (s : State) : s.copyCapture.cfg = s.cfg := rfl
@[simp] theorem State.copyCapture_spdTs (s : State) : s.copyCapture.spdTs = s.spdTs := rfl
@[simp] theorem State.copyCapture_dirTs (s : State) : s.copyCapture.dirTs = s.dirTs := rfl
@[simp] theorem State.copyCapture_spdInt (s : State) : s.copyCapture.spdInt = s.spdInt := rfl
@[simp] theorem State.copyCapture_dirInt (s : State) : s.copyCapture.dirInt = s.dirInt := rfl
@[simp] theorem State.copyCapture_newData (s : State) : s.copyCapture.newData = false := rfl
@[simp] theorem State.copyCapture_sSpdTs (s : State) : s.copyCapture.sSpdTs = s.spdTs := rfl
@[simp] theorem State.copyCapture_sDirTs (s : State) : s.copyCapture.sDirTs = s.dirTs := rfl
@[simp] theorem State.copyCapture_sSpdInt (s : State) : s.copyCapture.sSpdInt = s.spdInt := rfl
@[simp] theorem State.copyCapture_sDirInt (s : State) : s.copyCapture.sDirInt = s.dirInt := rfl
@[simp] theorem State.copyCapture_prevSpeed (s : State) : s.copyCapture.prevSpeed = s.prevSpeed := rfl
@[simp] theorem State.copyCapture_prevDir (s : State) : s.copyCapture.prevDir = s.prevDir := rfl
@[simp] theorem State.copyCapture_smoothDir (s : State) : s.copyCapture.smoothDir = s.smoothDir := rfl
@[simp] theorem State.copyCapture_curSpeed (s : State) : s.copyCapture.curSpeed = s.curSpeed := rfl
@[simp] theorem State.copyCapture_speedRej (s : State) : s.copyCapture.speedRej = s.speedRej := rfl
@[simp] theorem State.copyCapture_dirStat (s : State) : s.copyCapture.dirStat = s.dirStat := rfl
@[simp] theorem State.copyCapture_stall (s : State) : s.copyCapture.stall = s.stall := rfl
@[simp] theorem State.copyCapture_lastEmit (s : State) : s.copyCapture.lastEmit = s.lastEmit := rfl
@[simp] theorem State.copyCapture_out (s : State) : s.copyCapture.out = s.out := rfl
@[simp] theorem State.copyCapture_fault (s : State) : s.copyCapture.fault = s.fault := rfl
@[simp] theorem State.copyCapture_faultReason (s : State) : s.copyCapture.faultReason = s.faultReason := rfl
@[simp] theorem State.copyCapture_nowPort (s : State) : s.copyCapture.nowPort = s.nowPort := rfl
@[simp] theorem State.copyCapture_inputs (s : State) : s.copyCapture.inputs = s.inputs := rfl

/-! ### State.setSnapshotInterval -/

@[simp] theorem State.setSnapshotInterval_cfg (s : State) (v : Word) :
    (s.setSnapshotInterval v).cfg = s.cfg := rfl
@[simp] theorem State.setSnapshotInterval_spdTs (s : State) (v : Word) :
    (s.setSnapshotInterval v).spdTs = s.spdTs := rfl
@[simp] theorem State.setSnapshotInterval_dirTs (s : State) (v : Word) :
    (s.setSnapshotInterval v).dirTs = s.dirTs := rfl
@[simp] theorem State.setSnapshotInterval_spdInt (s : State) (v : Word) :
    (s.setSnapshotInterval v).spdInt = s.spdInt := rfl
@[simp] theorem State.setSnapshotInterval_dirInt (s : State) (v : Word) :
    (s.setSnapshotInterval v).dirInt = s.dirInt := rfl
@[simp] theorem State.setSnapshotInterval_newData (s : State) (v : Word) :
    (s.setSnapshotInterval v).newData = s.newData := rfl
@[simp] theorem State.setSnapshotInterval_sSpdTs (s : State) (v : Word) :
    (s.setSnapshotInterval v).sSpdTs = s.sSpdTs := rfl
@[simp] theorem State.setSnapshotInterval_sDirTs (s : State) (v : Word) :
    (s.setSnapshotInterval v).sDirTs = s.sDirTs := rfl
@[simp] theorem State.setSnapshotInterval_sSpdInt (s : State) (v : Word) :
    (s.setSnapshotInterval v).sSpdInt = v := rfl
@[simp] theorem State.setSnapshotInterval_sDirInt (s : State) (v : Word) :
    (s.setSnapshotInterval v).sDirInt = s.sDirInt := rfl
@[simp] theorem State.setSnapshotInterval_prevSpeed (s : State) (v : Word) :
    (s.setSnapshotInterval v).prevSpeed = s.prevSpeed := rfl
@[simp] theorem State.setSnapshotInterval_prevDir (s : State) (v : Word) :
    (s.setSnapshotInterval v).prevDir = s.prevDir := rfl
@[simp] theorem State.setSnapshotInterval_smoothDir (s : State) (v : Word) :
    (s.setSnapshotInterval v).smoothDir = s.smoothDir := rfl
@[simp] theorem State.setSnapshotInterval_curSpeed (s : State) (v : Word) :
    (s.setSnapshotInterval v).curSpeed = s.curSpeed := rfl
@[simp] theorem State.setSnapshotInterval_speedRej (s : State) (v : Word) :
    (s.setSnapshotInterval v).speedRej = s.speedRej := rfl
@[simp] theorem State.setSnapshotInterval_dirStat (s : State) (v : Word) :
    (s.setSnapshotInterval v).dirStat = s.dirStat := rfl
@[simp] theorem State.setSnapshotInterval_stall (s : State) (v : Word) :
    (s.setSnapshotInterval v).stall = decide (v = 0#32) := rfl
@[simp] theorem State.setSnapshotInterval_lastEmit (s : State) (v : Word) :
    (s.setSnapshotInterval v).lastEmit = s.lastEmit := rfl
@[simp] theorem State.setSnapshotInterval_out (s : State) (v : Word) :
    (s.setSnapshotInterval v).out = s.out := rfl
@[simp] theorem State.setSnapshotInterval_fault (s : State) (v : Word) :
    (s.setSnapshotInterval v).fault = s.fault := rfl
@[simp] theorem State.setSnapshotInterval_faultReason (s : State) (v : Word) :
    (s.setSnapshotInterval v).faultReason = s.faultReason := rfl
@[simp] theorem State.setSnapshotInterval_nowPort (s : State) (v : Word) :
    (s.setSnapshotInterval v).nowPort = s.nowPort := rfl
@[simp] theorem State.setSnapshotInterval_inputs (s : State) (v : Word) :
    (s.setSnapshotInterval v).inputs = s.inputs := rfl

/-! ### State.setPrevSpeed -/

@[simp] theorem State.setPrevSpeed_cfg (s : State) (v : Word) : (s.setPrevSpeed v).cfg = s.cfg := rfl
@[simp] theorem State.setPrevSpeed_spdTs (s : State) (v : Word) : (s.setPrevSpeed v).spdTs = s.spdTs := rfl
@[simp] theorem State.setPrevSpeed_dirTs (s : State) (v : Word) : (s.setPrevSpeed v).dirTs = s.dirTs := rfl
@[simp] theorem State.setPrevSpeed_spdInt (s : State) (v : Word) : (s.setPrevSpeed v).spdInt = s.spdInt := rfl
@[simp] theorem State.setPrevSpeed_dirInt (s : State) (v : Word) : (s.setPrevSpeed v).dirInt = s.dirInt := rfl
@[simp] theorem State.setPrevSpeed_newData (s : State) (v : Word) :
    (s.setPrevSpeed v).newData = s.newData := rfl
@[simp] theorem State.setPrevSpeed_sSpdTs (s : State) (v : Word) : (s.setPrevSpeed v).sSpdTs = s.sSpdTs := rfl
@[simp] theorem State.setPrevSpeed_sDirTs (s : State) (v : Word) : (s.setPrevSpeed v).sDirTs = s.sDirTs := rfl
@[simp] theorem State.setPrevSpeed_sSpdInt (s : State) (v : Word) :
    (s.setPrevSpeed v).sSpdInt = s.sSpdInt := rfl
@[simp] theorem State.setPrevSpeed_sDirInt (s : State) (v : Word) :
    (s.setPrevSpeed v).sDirInt = s.sDirInt := rfl
@[simp] theorem State.setPrevSpeed_prevSpeed (s : State) (v : Word) : (s.setPrevSpeed v).prevSpeed = v := rfl
@[simp] theorem State.setPrevSpeed_prevDir (s : State) (v : Word) :
    (s.setPrevSpeed v).prevDir = s.prevDir := rfl
@[simp] theorem State.setPrevSpeed_smoothDir (s : State) (v : Word) :
    (s.setPrevSpeed v).smoothDir = s.smoothDir := rfl
@[simp] theorem State.setPrevSpeed_curSpeed (s : State) (v : Word) :
    (s.setPrevSpeed v).curSpeed = s.curSpeed := rfl
@[simp] theorem State.setPrevSpeed_speedRej (s : State) (v : Word) :
    (s.setPrevSpeed v).speedRej = s.speedRej := rfl
@[simp] theorem State.setPrevSpeed_dirStat (s : State) (v : Word) :
    (s.setPrevSpeed v).dirStat = s.dirStat := rfl
@[simp] theorem State.setPrevSpeed_stall (s : State) (v : Word) : (s.setPrevSpeed v).stall = s.stall := rfl
@[simp] theorem State.setPrevSpeed_lastEmit (s : State) (v : Word) :
    (s.setPrevSpeed v).lastEmit = s.lastEmit := rfl
@[simp] theorem State.setPrevSpeed_out (s : State) (v : Word) : (s.setPrevSpeed v).out = s.out := rfl
@[simp] theorem State.setPrevSpeed_fault (s : State) (v : Word) : (s.setPrevSpeed v).fault = s.fault := rfl
@[simp] theorem State.setPrevSpeed_faultReason (s : State) (v : Word) :
    (s.setPrevSpeed v).faultReason = s.faultReason := rfl
@[simp] theorem State.setPrevSpeed_nowPort (s : State) (v : Word) :
    (s.setPrevSpeed v).nowPort = s.nowPort := rfl
@[simp] theorem State.setPrevSpeed_inputs (s : State) (v : Word) : (s.setPrevSpeed v).inputs = s.inputs := rfl

/-! ### State.acceptSpeed -/

@[simp] theorem State.acceptSpeed_cfg (s : State) (v : Word) : (s.acceptSpeed v).cfg = s.cfg := rfl
@[simp] theorem State.acceptSpeed_spdTs (s : State) (v : Word) : (s.acceptSpeed v).spdTs = s.spdTs := rfl
@[simp] theorem State.acceptSpeed_dirTs (s : State) (v : Word) : (s.acceptSpeed v).dirTs = s.dirTs := rfl
@[simp] theorem State.acceptSpeed_spdInt (s : State) (v : Word) : (s.acceptSpeed v).spdInt = s.spdInt := rfl
@[simp] theorem State.acceptSpeed_dirInt (s : State) (v : Word) : (s.acceptSpeed v).dirInt = s.dirInt := rfl
@[simp] theorem State.acceptSpeed_newData (s : State) (v : Word) :
    (s.acceptSpeed v).newData = s.newData := rfl
@[simp] theorem State.acceptSpeed_sSpdTs (s : State) (v : Word) : (s.acceptSpeed v).sSpdTs = s.sSpdTs := rfl
@[simp] theorem State.acceptSpeed_sDirTs (s : State) (v : Word) : (s.acceptSpeed v).sDirTs = s.sDirTs := rfl
@[simp] theorem State.acceptSpeed_sSpdInt (s : State) (v : Word) :
    (s.acceptSpeed v).sSpdInt = s.sSpdInt := rfl
@[simp] theorem State.acceptSpeed_sDirInt (s : State) (v : Word) :
    (s.acceptSpeed v).sDirInt = s.sDirInt := rfl
@[simp] theorem State.acceptSpeed_prevSpeed (s : State) (v : Word) :
    (s.acceptSpeed v).prevSpeed = s.prevSpeed := rfl
@[simp] theorem State.acceptSpeed_prevDir (s : State) (v : Word) :
    (s.acceptSpeed v).prevDir = s.prevDir := rfl
@[simp] theorem State.acceptSpeed_smoothDir (s : State) (v : Word) :
    (s.acceptSpeed v).smoothDir = s.smoothDir := rfl
@[simp] theorem State.acceptSpeed_curSpeed (s : State) (v : Word) : (s.acceptSpeed v).curSpeed = v := rfl
@[simp] theorem State.acceptSpeed_speedRej (s : State) (v : Word) : (s.acceptSpeed v).speedRej = false := rfl
@[simp] theorem State.acceptSpeed_dirStat (s : State) (v : Word) :
    (s.acceptSpeed v).dirStat = s.dirStat := rfl
@[simp] theorem State.acceptSpeed_stall (s : State) (v : Word) : (s.acceptSpeed v).stall = s.stall := rfl
@[simp] theorem State.acceptSpeed_lastEmit (s : State) (v : Word) :
    (s.acceptSpeed v).lastEmit = s.lastEmit := rfl
@[simp] theorem State.acceptSpeed_out (s : State) (v : Word) : (s.acceptSpeed v).out = s.out := rfl
@[simp] theorem State.acceptSpeed_fault (s : State) (v : Word) : (s.acceptSpeed v).fault = s.fault := rfl
@[simp] theorem State.acceptSpeed_faultReason (s : State) (v : Word) :
    (s.acceptSpeed v).faultReason = s.faultReason := rfl
@[simp] theorem State.acceptSpeed_nowPort (s : State) (v : Word) :
    (s.acceptSpeed v).nowPort = s.nowPort := rfl
@[simp] theorem State.acceptSpeed_inputs (s : State) (v : Word) : (s.acceptSpeed v).inputs = s.inputs := rfl

/-! ### State.rejectSpeed -/

@[simp] theorem State.rejectSpeed_cfg (s : State) : s.rejectSpeed.cfg = s.cfg := rfl
@[simp] theorem State.rejectSpeed_spdTs (s : State) : s.rejectSpeed.spdTs = s.spdTs := rfl
@[simp] theorem State.rejectSpeed_dirTs (s : State) : s.rejectSpeed.dirTs = s.dirTs := rfl
@[simp] theorem State.rejectSpeed_spdInt (s : State) : s.rejectSpeed.spdInt = s.spdInt := rfl
@[simp] theorem State.rejectSpeed_dirInt (s : State) : s.rejectSpeed.dirInt = s.dirInt := rfl
@[simp] theorem State.rejectSpeed_newData (s : State) : s.rejectSpeed.newData = s.newData := rfl
@[simp] theorem State.rejectSpeed_sSpdTs (s : State) : s.rejectSpeed.sSpdTs = s.sSpdTs := rfl
@[simp] theorem State.rejectSpeed_sDirTs (s : State) : s.rejectSpeed.sDirTs = s.sDirTs := rfl
@[simp] theorem State.rejectSpeed_sSpdInt (s : State) : s.rejectSpeed.sSpdInt = s.sSpdInt := rfl
@[simp] theorem State.rejectSpeed_sDirInt (s : State) : s.rejectSpeed.sDirInt = s.sDirInt := rfl
@[simp] theorem State.rejectSpeed_prevSpeed (s : State) : s.rejectSpeed.prevSpeed = s.prevSpeed := rfl
@[simp] theorem State.rejectSpeed_prevDir (s : State) : s.rejectSpeed.prevDir = s.prevDir := rfl
@[simp] theorem State.rejectSpeed_smoothDir (s : State) : s.rejectSpeed.smoothDir = s.smoothDir := rfl
@[simp] theorem State.rejectSpeed_curSpeed (s : State) : s.rejectSpeed.curSpeed = s.curSpeed := rfl
@[simp] theorem State.rejectSpeed_speedRej (s : State) : s.rejectSpeed.speedRej = true := rfl
@[simp] theorem State.rejectSpeed_dirStat (s : State) : s.rejectSpeed.dirStat = .notReached := rfl
@[simp] theorem State.rejectSpeed_stall (s : State) : s.rejectSpeed.stall = s.stall := rfl
@[simp] theorem State.rejectSpeed_lastEmit (s : State) : s.rejectSpeed.lastEmit = s.lastEmit := rfl
@[simp] theorem State.rejectSpeed_out (s : State) : s.rejectSpeed.out = s.out := rfl
@[simp] theorem State.rejectSpeed_fault (s : State) : s.rejectSpeed.fault = s.fault := rfl
@[simp] theorem State.rejectSpeed_faultReason (s : State) : s.rejectSpeed.faultReason = s.faultReason := rfl
@[simp] theorem State.rejectSpeed_nowPort (s : State) : s.rejectSpeed.nowPort = s.nowPort := rfl
@[simp] theorem State.rejectSpeed_inputs (s : State) : s.rejectSpeed.inputs = s.inputs := rfl

/-! ### State.setDirStat -/

@[simp] theorem State.setDirStat_cfg (s : State) (d : DirStat) : (s.setDirStat d).cfg = s.cfg := rfl
@[simp] theorem State.setDirStat_spdTs (s : State) (d : DirStat) : (s.setDirStat d).spdTs = s.spdTs := rfl
@[simp] theorem State.setDirStat_dirTs (s : State) (d : DirStat) : (s.setDirStat d).dirTs = s.dirTs := rfl
@[simp] theorem State.setDirStat_spdInt (s : State) (d : DirStat) : (s.setDirStat d).spdInt = s.spdInt := rfl
@[simp] theorem State.setDirStat_dirInt (s : State) (d : DirStat) : (s.setDirStat d).dirInt = s.dirInt := rfl
@[simp] theorem State.setDirStat_newData (s : State) (d : DirStat) :
    (s.setDirStat d).newData = s.newData := rfl
@[simp] theorem State.setDirStat_sSpdTs (s : State) (d : DirStat) : (s.setDirStat d).sSpdTs = s.sSpdTs := rfl
@[simp] theorem State.setDirStat_sDirTs (s : State) (d : DirStat) : (s.setDirStat d).sDirTs = s.sDirTs := rfl
@[simp] theorem State.setDirStat_sSpdInt (s : State) (d : DirStat) :
    (s.setDirStat d).sSpdInt = s.sSpdInt := rfl
@[simp] theorem State.setDirStat_sDirInt (s : State) (d : DirStat) :
    (s.setDirStat d).sDirInt = s.sDirInt := rfl
@[simp] theorem State.setDirStat_prevSpeed (s : State) (d : DirStat) :
    (s.setDirStat d).prevSpeed = s.prevSpeed := rfl
@[simp] theorem State.setDirStat_prevDir (s : State) (d : DirStat) :
    (s.setDirStat d).prevDir = s.prevDir := rfl
@[simp] theorem State.setDirStat_smoothDir (s : State) (d : DirStat) :
    (s.setDirStat d).smoothDir = s.smoothDir := rfl
@[simp] theorem State.setDirStat_curSpeed (s : State) (d : DirStat) :
    (s.setDirStat d).curSpeed = s.curSpeed := rfl
@[simp] theorem State.setDirStat_speedRej (s : State) (d : DirStat) :
    (s.setDirStat d).speedRej = s.speedRej := rfl
@[simp] theorem State.setDirStat_dirStat (s : State) (d : DirStat) : (s.setDirStat d).dirStat = d := rfl
@[simp] theorem State.setDirStat_stall (s : State) (d : DirStat) : (s.setDirStat d).stall = s.stall := rfl
@[simp] theorem State.setDirStat_lastEmit (s : State) (d : DirStat) :
    (s.setDirStat d).lastEmit = s.lastEmit := rfl
@[simp] theorem State.setDirStat_out (s : State) (d : DirStat) : (s.setDirStat d).out = s.out := rfl
@[simp] theorem State.setDirStat_fault (s : State) (d : DirStat) : (s.setDirStat d).fault = s.fault := rfl
@[simp] theorem State.setDirStat_faultReason (s : State) (d : DirStat) :
    (s.setDirStat d).faultReason = s.faultReason := rfl
@[simp] theorem State.setDirStat_nowPort (s : State) (d : DirStat) :
    (s.setDirStat d).nowPort = s.nowPort := rfl
@[simp] theorem State.setDirStat_inputs (s : State) (d : DirStat) : (s.setDirStat d).inputs = s.inputs := rfl

/-! ### State.setPrevDir -/

@[simp] theorem State.setPrevDir_cfg (s : State) (d : Degrees) : (s.setPrevDir d).cfg = s.cfg := rfl
@[simp] theorem State.setPrevDir_spdTs (s : State) (d : Degrees) : (s.setPrevDir d).spdTs = s.spdTs := rfl
@[simp] theorem State.setPrevDir_dirTs (s : State) (d : Degrees) : (s.setPrevDir d).dirTs = s.dirTs := rfl
@[simp] theorem State.setPrevDir_spdInt (s : State) (d : Degrees) : (s.setPrevDir d).spdInt = s.spdInt := rfl
@[simp] theorem State.setPrevDir_dirInt (s : State) (d : Degrees) : (s.setPrevDir d).dirInt = s.dirInt := rfl
@[simp] theorem State.setPrevDir_newData (s : State) (d : Degrees) :
    (s.setPrevDir d).newData = s.newData := rfl
@[simp] theorem State.setPrevDir_sSpdTs (s : State) (d : Degrees) : (s.setPrevDir d).sSpdTs = s.sSpdTs := rfl
@[simp] theorem State.setPrevDir_sDirTs (s : State) (d : Degrees) : (s.setPrevDir d).sDirTs = s.sDirTs := rfl
@[simp] theorem State.setPrevDir_sSpdInt (s : State) (d : Degrees) :
    (s.setPrevDir d).sSpdInt = s.sSpdInt := rfl
@[simp] theorem State.setPrevDir_sDirInt (s : State) (d : Degrees) :
    (s.setPrevDir d).sDirInt = s.sDirInt := rfl
@[simp] theorem State.setPrevDir_prevSpeed (s : State) (d : Degrees) :
    (s.setPrevDir d).prevSpeed = s.prevSpeed := rfl
@[simp] theorem State.setPrevDir_prevDir (s : State) (d : Degrees) : (s.setPrevDir d).prevDir = d := rfl
@[simp] theorem State.setPrevDir_smoothDir (s : State) (d : Degrees) :
    (s.setPrevDir d).smoothDir = s.smoothDir := rfl
@[simp] theorem State.setPrevDir_curSpeed (s : State) (d : Degrees) :
    (s.setPrevDir d).curSpeed = s.curSpeed := rfl
@[simp] theorem State.setPrevDir_speedRej (s : State) (d : Degrees) :
    (s.setPrevDir d).speedRej = s.speedRej := rfl
@[simp] theorem State.setPrevDir_dirStat (s : State) (d : Degrees) :
    (s.setPrevDir d).dirStat = s.dirStat := rfl
@[simp] theorem State.setPrevDir_stall (s : State) (d : Degrees) : (s.setPrevDir d).stall = s.stall := rfl
@[simp] theorem State.setPrevDir_lastEmit (s : State) (d : Degrees) :
    (s.setPrevDir d).lastEmit = s.lastEmit := rfl
@[simp] theorem State.setPrevDir_out (s : State) (d : Degrees) : (s.setPrevDir d).out = s.out := rfl
@[simp] theorem State.setPrevDir_fault (s : State) (d : Degrees) : (s.setPrevDir d).fault = s.fault := rfl
@[simp] theorem State.setPrevDir_faultReason (s : State) (d : Degrees) :
    (s.setPrevDir d).faultReason = s.faultReason := rfl
@[simp] theorem State.setPrevDir_nowPort (s : State) (d : Degrees) :
    (s.setPrevDir d).nowPort = s.nowPort := rfl
@[simp] theorem State.setPrevDir_inputs (s : State) (d : Degrees) : (s.setPrevDir d).inputs = s.inputs := rfl

/-! ### State.setSmoothDir -/

@[simp] theorem State.setSmoothDir_cfg (s : State) (d : Degrees) : (s.setSmoothDir d).cfg = s.cfg := rfl
@[simp] theorem State.setSmoothDir_spdTs (s : State) (d : Degrees) : (s.setSmoothDir d).spdTs = s.spdTs := rfl
@[simp] theorem State.setSmoothDir_dirTs (s : State) (d : Degrees) : (s.setSmoothDir d).dirTs = s.dirTs := rfl
@[simp] theorem State.setSmoothDir_spdInt (s : State) (d : Degrees) :
    (s.setSmoothDir d).spdInt = s.spdInt := rfl
@[simp] theorem State.setSmoothDir_dirInt (s : State) (d : Degrees) :
    (s.setSmoothDir d).dirInt = s.dirInt := rfl
@[simp] theorem State.setSmoothDir_newData (s : State) (d : Degrees) :
    (s.setSmoothDir d).newData = s.newData := rfl
@[simp] theorem State.setSmoothDir_sSpdTs (s : State) (d : Degrees) :
    (s.setSmoothDir d).sSpdTs = s.sSpdTs := rfl
@[simp] theorem State.setSmoothDir_sDirTs (s : State) (d : Degrees) :
    (s.setSmoothDir d).sDirTs = s.sDirTs := rfl
@[simp] theorem State.setSmoothDir_sSpdInt (s : State) (d : Degrees) :
    (s.setSmoothDir d).sSpdInt = s.sSpdInt := rfl
@[simp] theorem State.setSmoothDir_sDirInt (s : State) (d : Degrees) :
    (s.setSmoothDir d).sDirInt = s.sDirInt := rfl
@[simp] theorem State.setSmoothDir_prevSpeed (s : State) (d : Degrees) :
    (s.setSmoothDir d).prevSpeed = s.prevSpeed := rfl
@[simp] theorem State.setSmoothDir_prevDir (s : State) (d : Degrees) :
    (s.setSmoothDir d).prevDir = s.prevDir := rfl
@[simp] theorem State.setSmoothDir_smoothDir (s : State) (d : Degrees) :
    (s.setSmoothDir d).smoothDir = d := rfl
@[simp] theorem State.setSmoothDir_curSpeed (s : State) (d : Degrees) :
    (s.setSmoothDir d).curSpeed = s.curSpeed := rfl
@[simp] theorem State.setSmoothDir_speedRej (s : State) (d : Degrees) :
    (s.setSmoothDir d).speedRej = s.speedRej := rfl
@[simp] theorem State.setSmoothDir_dirStat (s : State) (d : Degrees) :
    (s.setSmoothDir d).dirStat = s.dirStat := rfl
@[simp] theorem State.setSmoothDir_stall (s : State) (d : Degrees) : (s.setSmoothDir d).stall = s.stall := rfl
@[simp] theorem State.setSmoothDir_lastEmit (s : State) (d : Degrees) :
    (s.setSmoothDir d).lastEmit = s.lastEmit := rfl
@[simp] theorem State.setSmoothDir_out (s : State) (d : Degrees) : (s.setSmoothDir d).out = s.out := rfl
@[simp] theorem State.setSmoothDir_fault (s : State) (d : Degrees) : (s.setSmoothDir d).fault = s.fault := rfl
@[simp] theorem State.setSmoothDir_faultReason (s : State) (d : Degrees) :
    (s.setSmoothDir d).faultReason = s.faultReason := rfl
@[simp] theorem State.setSmoothDir_nowPort (s : State) (d : Degrees) :
    (s.setSmoothDir d).nowPort = s.nowPort := rfl
@[simp] theorem State.setSmoothDir_inputs (s : State) (d : Degrees) :
    (s.setSmoothDir d).inputs = s.inputs := rfl

/-! ### State.emitBytes -/

@[simp] theorem State.emitBytes_cfg (s : State) (bs : List Byte) : (s.emitBytes bs).cfg = s.cfg := rfl
@[simp] theorem State.emitBytes_spdTs (s : State) (bs : List Byte) : (s.emitBytes bs).spdTs = s.spdTs := rfl
@[simp] theorem State.emitBytes_dirTs (s : State) (bs : List Byte) : (s.emitBytes bs).dirTs = s.dirTs := rfl
@[simp] theorem State.emitBytes_spdInt (s : State) (bs : List Byte) :
    (s.emitBytes bs).spdInt = s.spdInt := rfl
@[simp] theorem State.emitBytes_dirInt (s : State) (bs : List Byte) :
    (s.emitBytes bs).dirInt = s.dirInt := rfl
@[simp] theorem State.emitBytes_newData (s : State) (bs : List Byte) :
    (s.emitBytes bs).newData = s.newData := rfl
@[simp] theorem State.emitBytes_sSpdTs (s : State) (bs : List Byte) :
    (s.emitBytes bs).sSpdTs = s.sSpdTs := rfl
@[simp] theorem State.emitBytes_sDirTs (s : State) (bs : List Byte) :
    (s.emitBytes bs).sDirTs = s.sDirTs := rfl
@[simp] theorem State.emitBytes_sSpdInt (s : State) (bs : List Byte) :
    (s.emitBytes bs).sSpdInt = s.sSpdInt := rfl
@[simp] theorem State.emitBytes_sDirInt (s : State) (bs : List Byte) :
    (s.emitBytes bs).sDirInt = s.sDirInt := rfl
@[simp] theorem State.emitBytes_prevSpeed (s : State) (bs : List Byte) :
    (s.emitBytes bs).prevSpeed = s.prevSpeed := rfl
@[simp] theorem State.emitBytes_prevDir (s : State) (bs : List Byte) :
    (s.emitBytes bs).prevDir = s.prevDir := rfl
@[simp] theorem State.emitBytes_smoothDir (s : State) (bs : List Byte) :
    (s.emitBytes bs).smoothDir = s.smoothDir := rfl
@[simp] theorem State.emitBytes_curSpeed (s : State) (bs : List Byte) :
    (s.emitBytes bs).curSpeed = s.curSpeed := rfl
@[simp] theorem State.emitBytes_speedRej (s : State) (bs : List Byte) :
    (s.emitBytes bs).speedRej = s.speedRej := rfl
@[simp] theorem State.emitBytes_dirStat (s : State) (bs : List Byte) :
    (s.emitBytes bs).dirStat = s.dirStat := rfl
@[simp] theorem State.emitBytes_stall (s : State) (bs : List Byte) : (s.emitBytes bs).stall = s.stall := rfl
@[simp] theorem State.emitBytes_lastEmit (s : State) (bs : List Byte) :
    (s.emitBytes bs).lastEmit = s.lastEmit := rfl
@[simp] theorem State.emitBytes_out (s : State) (bs : List Byte) : (s.emitBytes bs).out = s.out ++ bs := rfl
@[simp] theorem State.emitBytes_fault (s : State) (bs : List Byte) : (s.emitBytes bs).fault = s.fault := rfl
@[simp] theorem State.emitBytes_faultReason (s : State) (bs : List Byte) :
    (s.emitBytes bs).faultReason = s.faultReason := rfl
@[simp] theorem State.emitBytes_nowPort (s : State) (bs : List Byte) :
    (s.emitBytes bs).nowPort = s.nowPort := rfl
@[simp] theorem State.emitBytes_inputs (s : State) (bs : List Byte) :
    (s.emitBytes bs).inputs = s.inputs := rfl

/-! ### State.setLastEmit -/

@[simp] theorem State.setLastEmit_cfg (s : State) (t : Word) : (s.setLastEmit t).cfg = s.cfg := rfl
@[simp] theorem State.setLastEmit_spdTs (s : State) (t : Word) : (s.setLastEmit t).spdTs = s.spdTs := rfl
@[simp] theorem State.setLastEmit_dirTs (s : State) (t : Word) : (s.setLastEmit t).dirTs = s.dirTs := rfl
@[simp] theorem State.setLastEmit_spdInt (s : State) (t : Word) : (s.setLastEmit t).spdInt = s.spdInt := rfl
@[simp] theorem State.setLastEmit_dirInt (s : State) (t : Word) : (s.setLastEmit t).dirInt = s.dirInt := rfl
@[simp] theorem State.setLastEmit_newData (s : State) (t : Word) :
    (s.setLastEmit t).newData = s.newData := rfl
@[simp] theorem State.setLastEmit_sSpdTs (s : State) (t : Word) : (s.setLastEmit t).sSpdTs = s.sSpdTs := rfl
@[simp] theorem State.setLastEmit_sDirTs (s : State) (t : Word) : (s.setLastEmit t).sDirTs = s.sDirTs := rfl
@[simp] theorem State.setLastEmit_sSpdInt (s : State) (t : Word) :
    (s.setLastEmit t).sSpdInt = s.sSpdInt := rfl
@[simp] theorem State.setLastEmit_sDirInt (s : State) (t : Word) :
    (s.setLastEmit t).sDirInt = s.sDirInt := rfl
@[simp] theorem State.setLastEmit_prevSpeed (s : State) (t : Word) :
    (s.setLastEmit t).prevSpeed = s.prevSpeed := rfl
@[simp] theorem State.setLastEmit_prevDir (s : State) (t : Word) :
    (s.setLastEmit t).prevDir = s.prevDir := rfl
@[simp] theorem State.setLastEmit_smoothDir (s : State) (t : Word) :
    (s.setLastEmit t).smoothDir = s.smoothDir := rfl
@[simp] theorem State.setLastEmit_curSpeed (s : State) (t : Word) :
    (s.setLastEmit t).curSpeed = s.curSpeed := rfl
@[simp] theorem State.setLastEmit_speedRej (s : State) (t : Word) :
    (s.setLastEmit t).speedRej = s.speedRej := rfl
@[simp] theorem State.setLastEmit_dirStat (s : State) (t : Word) :
    (s.setLastEmit t).dirStat = s.dirStat := rfl
@[simp] theorem State.setLastEmit_stall (s : State) (t : Word) : (s.setLastEmit t).stall = s.stall := rfl
@[simp] theorem State.setLastEmit_lastEmit (s : State) (t : Word) : (s.setLastEmit t).lastEmit = t := rfl
@[simp] theorem State.setLastEmit_out (s : State) (t : Word) : (s.setLastEmit t).out = s.out := rfl
@[simp] theorem State.setLastEmit_fault (s : State) (t : Word) : (s.setLastEmit t).fault = s.fault := rfl
@[simp] theorem State.setLastEmit_faultReason (s : State) (t : Word) :
    (s.setLastEmit t).faultReason = s.faultReason := rfl
@[simp] theorem State.setLastEmit_nowPort (s : State) (t : Word) :
    (s.setLastEmit t).nowPort = s.nowPort := rfl
@[simp] theorem State.setLastEmit_inputs (s : State) (t : Word) : (s.setLastEmit t).inputs = s.inputs := rfl

/-! ### State.raiseFault -/

@[simp] theorem State.raiseFault_cfg (s : State) (r : FaultReason) : (s.raiseFault r).cfg = s.cfg := rfl
@[simp] theorem State.raiseFault_spdTs (s : State) (r : FaultReason) : (s.raiseFault r).spdTs = s.spdTs := rfl
@[simp] theorem State.raiseFault_dirTs (s : State) (r : FaultReason) : (s.raiseFault r).dirTs = s.dirTs := rfl
@[simp] theorem State.raiseFault_spdInt (s : State) (r : FaultReason) :
    (s.raiseFault r).spdInt = s.spdInt := rfl
@[simp] theorem State.raiseFault_dirInt (s : State) (r : FaultReason) :
    (s.raiseFault r).dirInt = s.dirInt := rfl
@[simp] theorem State.raiseFault_newData (s : State) (r : FaultReason) :
    (s.raiseFault r).newData = s.newData := rfl
@[simp] theorem State.raiseFault_sSpdTs (s : State) (r : FaultReason) :
    (s.raiseFault r).sSpdTs = s.sSpdTs := rfl
@[simp] theorem State.raiseFault_sDirTs (s : State) (r : FaultReason) :
    (s.raiseFault r).sDirTs = s.sDirTs := rfl
@[simp] theorem State.raiseFault_sSpdInt (s : State) (r : FaultReason) :
    (s.raiseFault r).sSpdInt = s.sSpdInt := rfl
@[simp] theorem State.raiseFault_sDirInt (s : State) (r : FaultReason) :
    (s.raiseFault r).sDirInt = s.sDirInt := rfl
@[simp] theorem State.raiseFault_prevSpeed (s : State) (r : FaultReason) :
    (s.raiseFault r).prevSpeed = s.prevSpeed := rfl
@[simp] theorem State.raiseFault_prevDir (s : State) (r : FaultReason) :
    (s.raiseFault r).prevDir = s.prevDir := rfl
@[simp] theorem State.raiseFault_smoothDir (s : State) (r : FaultReason) :
    (s.raiseFault r).smoothDir = s.smoothDir := rfl
@[simp] theorem State.raiseFault_curSpeed (s : State) (r : FaultReason) :
    (s.raiseFault r).curSpeed = s.curSpeed := rfl
@[simp] theorem State.raiseFault_speedRej (s : State) (r : FaultReason) :
    (s.raiseFault r).speedRej = s.speedRej := rfl
@[simp] theorem State.raiseFault_dirStat (s : State) (r : FaultReason) :
    (s.raiseFault r).dirStat = s.dirStat := rfl
@[simp] theorem State.raiseFault_stall (s : State) (r : FaultReason) : (s.raiseFault r).stall = s.stall := rfl
@[simp] theorem State.raiseFault_lastEmit (s : State) (r : FaultReason) :
    (s.raiseFault r).lastEmit = s.lastEmit := rfl
@[simp] theorem State.raiseFault_out (s : State) (r : FaultReason) : (s.raiseFault r).out = s.out := rfl
@[simp] theorem State.raiseFault_fault (s : State) (r : FaultReason) : (s.raiseFault r).fault = true := rfl
@[simp] theorem State.raiseFault_faultReason (s : State) (r : FaultReason) :
    (s.raiseFault r).faultReason = r := rfl
@[simp] theorem State.raiseFault_nowPort (s : State) (r : FaultReason) :
    (s.raiseFault r).nowPort = s.nowPort := rfl
@[simp] theorem State.raiseFault_inputs (s : State) (r : FaultReason) :
    (s.raiseFault r).inputs = s.inputs := rfl

/-! ### State.presentOp -/

@[simp] theorem State.presentOp_cfg (s : State) (t : Word) (rest : List HostInput) :
    (s.presentOp t rest).cfg = s.cfg := rfl
@[simp] theorem State.presentOp_spdTs (s : State) (t : Word) (rest : List HostInput) :
    (s.presentOp t rest).spdTs = s.spdTs := rfl
@[simp] theorem State.presentOp_dirTs (s : State) (t : Word) (rest : List HostInput) :
    (s.presentOp t rest).dirTs = s.dirTs := rfl
@[simp] theorem State.presentOp_spdInt (s : State) (t : Word) (rest : List HostInput) :
    (s.presentOp t rest).spdInt = s.spdInt := rfl
@[simp] theorem State.presentOp_dirInt (s : State) (t : Word) (rest : List HostInput) :
    (s.presentOp t rest).dirInt = s.dirInt := rfl
@[simp] theorem State.presentOp_newData (s : State) (t : Word) (rest : List HostInput) :
    (s.presentOp t rest).newData = s.newData := rfl
@[simp] theorem State.presentOp_sSpdTs (s : State) (t : Word) (rest : List HostInput) :
    (s.presentOp t rest).sSpdTs = s.sSpdTs := rfl
@[simp] theorem State.presentOp_sDirTs (s : State) (t : Word) (rest : List HostInput) :
    (s.presentOp t rest).sDirTs = s.sDirTs := rfl
@[simp] theorem State.presentOp_sSpdInt (s : State) (t : Word) (rest : List HostInput) :
    (s.presentOp t rest).sSpdInt = s.sSpdInt := rfl
@[simp] theorem State.presentOp_sDirInt (s : State) (t : Word) (rest : List HostInput) :
    (s.presentOp t rest).sDirInt = s.sDirInt := rfl
@[simp] theorem State.presentOp_prevSpeed (s : State) (t : Word) (rest : List HostInput) :
    (s.presentOp t rest).prevSpeed = s.prevSpeed := rfl
@[simp] theorem State.presentOp_prevDir (s : State) (t : Word) (rest : List HostInput) :
    (s.presentOp t rest).prevDir = s.prevDir := rfl
@[simp] theorem State.presentOp_smoothDir (s : State) (t : Word) (rest : List HostInput) :
    (s.presentOp t rest).smoothDir = s.smoothDir := rfl
@[simp] theorem State.presentOp_curSpeed (s : State) (t : Word) (rest : List HostInput) :
    (s.presentOp t rest).curSpeed = s.curSpeed := rfl
@[simp] theorem State.presentOp_speedRej (s : State) (t : Word) (rest : List HostInput) :
    (s.presentOp t rest).speedRej = s.speedRej := rfl
@[simp] theorem State.presentOp_dirStat (s : State) (t : Word) (rest : List HostInput) :
    (s.presentOp t rest).dirStat = s.dirStat := rfl
@[simp] theorem State.presentOp_stall (s : State) (t : Word) (rest : List HostInput) :
    (s.presentOp t rest).stall = s.stall := rfl
@[simp] theorem State.presentOp_lastEmit (s : State) (t : Word) (rest : List HostInput) :
    (s.presentOp t rest).lastEmit = s.lastEmit := rfl
@[simp] theorem State.presentOp_out (s : State) (t : Word) (rest : List HostInput) :
    (s.presentOp t rest).out = s.out := rfl
@[simp] theorem State.presentOp_fault (s : State) (t : Word) (rest : List HostInput) :
    (s.presentOp t rest).fault = s.fault := rfl
@[simp] theorem State.presentOp_faultReason (s : State) (t : Word) (rest : List HostInput) :
    (s.presentOp t rest).faultReason = s.faultReason := rfl
@[simp] theorem State.presentOp_nowPort (s : State) (t : Word) (rest : List HostInput) :
    (s.presentOp t rest).nowPort = t := rfl
@[simp] theorem State.presentOp_inputs (s : State) (t : Word) (rest : List HostInput) :
    (s.presentOp t rest).inputs = rest := rfl

/-! ### State.assertReset and State.hold -/

@[simp] theorem State.assertReset_cfg (s : State) (rest : List HostInput) :
    (s.assertReset rest).cfg = s.cfg := rfl
@[simp] theorem State.assertReset_spdTs (s : State) (rest : List HostInput) :
    (s.assertReset rest).spdTs = 0#32 := rfl
@[simp] theorem State.assertReset_dirTs (s : State) (rest : List HostInput) :
    (s.assertReset rest).dirTs = 0#32 := rfl
@[simp] theorem State.assertReset_spdInt (s : State) (rest : List HostInput) :
    (s.assertReset rest).spdInt = 0#32 := rfl
@[simp] theorem State.assertReset_dirInt (s : State) (rest : List HostInput) :
    (s.assertReset rest).dirInt = 0#32 := rfl
@[simp] theorem State.assertReset_newData (s : State) (rest : List HostInput) :
    (s.assertReset rest).newData = false := rfl
@[simp] theorem State.assertReset_sSpdTs (s : State) (rest : List HostInput) :
    (s.assertReset rest).sSpdTs = 0#32 := rfl
@[simp] theorem State.assertReset_sDirTs (s : State) (rest : List HostInput) :
    (s.assertReset rest).sDirTs = 0#32 := rfl
@[simp] theorem State.assertReset_sSpdInt (s : State) (rest : List HostInput) :
    (s.assertReset rest).sSpdInt = 0#32 := rfl
@[simp] theorem State.assertReset_sDirInt (s : State) (rest : List HostInput) :
    (s.assertReset rest).sDirInt = 0#32 := rfl
@[simp] theorem State.assertReset_prevSpeed (s : State) (rest : List HostInput) :
    (s.assertReset rest).prevSpeed = 0#32 := rfl
@[simp] theorem State.assertReset_prevDir (s : State) (rest : List HostInput) :
    (s.assertReset rest).prevDir = 0#9 := rfl
@[simp] theorem State.assertReset_smoothDir (s : State) (rest : List HostInput) :
    (s.assertReset rest).smoothDir = 0#9 := rfl
@[simp] theorem State.assertReset_curSpeed (s : State) (rest : List HostInput) :
    (s.assertReset rest).curSpeed = 0#32 := rfl
@[simp] theorem State.assertReset_speedRej (s : State) (rest : List HostInput) :
    (s.assertReset rest).speedRej = false := rfl
@[simp] theorem State.assertReset_dirStat (s : State) (rest : List HostInput) :
    (s.assertReset rest).dirStat = .notReached := rfl
@[simp] theorem State.assertReset_stall (s : State) (rest : List HostInput) :
    (s.assertReset rest).stall = false := rfl
@[simp] theorem State.assertReset_lastEmit (s : State) (rest : List HostInput) :
    (s.assertReset rest).lastEmit = 0#32 := rfl
@[simp] theorem State.assertReset_out (s : State) (rest : List HostInput) :
    (s.assertReset rest).out = [] := rfl
@[simp] theorem State.assertReset_fault (s : State) (rest : List HostInput) :
    (s.assertReset rest).fault = false := rfl
@[simp] theorem State.assertReset_faultReason (s : State) (rest : List HostInput) :
    (s.assertReset rest).faultReason = .none := rfl
@[simp] theorem State.assertReset_nowPort (s : State) (rest : List HostInput) :
    (s.assertReset rest).nowPort = 0#32 := rfl
@[simp] theorem State.assertReset_inputs (s : State) (rest : List HostInput) :
    (s.assertReset rest).inputs = rest := rfl

@[simp] theorem State.hold_eq (s : State) : s.hold = s := rfl

end Sys2Proof.Machine
end

