-- ==== Sys2Proof/Laws/Capture.lean ====
section
/-! SUPPORT. What an edge operation and a snapshot can do, said once: callers cite these and unfold neither. -/

namespace Sys2Proof.Machine

/-- The modular time difference as a number. -/
theorem elapsed_toNat (a b : Word) : ((elapsed a b).toNat : Int) = ((a.toNat : Int) - b.toNat) % 2 ^ 32 := by
  have ha := a.isLt
  have hb := b.isLt
  simp only [elapsed, BitVec.toNat_sub]
  omega

/-- An edge is handled exactly when the line is low and the debounce time has passed (40_capture R100, R101). -/
theorem edgeAccepted_iff (c : CfgData) (lvl : Level) (now ts : Word) :
    edgeAccepted c lvl now ts = true ↔ lvl = .lo ∧ c.debounce ≤ elapsed now ts := by
  cases lvl <;> simp [edgeAccepted, debounced]

/-- SPD_EDGE either changes nothing or makes the writes of an accepted edge. -/
theorem speedEdge_cases (lvl : Level) (s : State) :
    (¬(lvl = .lo ∧ s.cfg.data.debounce ≤ elapsed s.nowPort s.spdTs) ∧ speedEdge lvl s = s) ∨
    ((lvl = .lo ∧ s.cfg.data.debounce ≤ elapsed s.nowPort s.spdTs) ∧
      speedEdge lvl s = s.captureSpeed (elapsed s.nowPort s.spdTs) (refreshedDirInt s) s.nowPort) := by
  have h := edgeAccepted_iff s.cfg.data lvl s.nowPort s.spdTs
  unfold speedEdge
  split
  · exact .inr ⟨h.mp ‹_›, rfl⟩
  · exact .inl ⟨fun hc => ‹¬_› (h.mpr hc), rfl⟩

/-- DIR_EDGE either changes nothing or writes DIR_TS. -/
theorem dirEdge_cases (lvl : Level) (s : State) :
    (¬(lvl = .lo ∧ s.cfg.data.debounce ≤ elapsed s.nowPort s.dirTs) ∧ dirEdge lvl s = s) ∨
    ((lvl = .lo ∧ s.cfg.data.debounce ≤ elapsed s.nowPort s.dirTs) ∧
      dirEdge lvl s = s.captureDir s.nowPort) := by
  have h := edgeAccepted_iff s.cfg.data lvl s.nowPort s.dirTs
  unfold dirEdge
  split
  · exact .inr ⟨h.mp ‹_›, rfl⟩
  · exact .inl ⟨fun hc => ‹¬_› (h.mpr hc), rfl⟩

/-- The timeout is strict (41_snapshot R121). -/
theorem timedOut_iff (c : CfgData) (now ts : Word) : timedOut c now ts = true ↔ c.timeout < elapsed now ts := by
  simp [timedOut]

/-- SNAPSHOT in the registers it copies from (41_snapshot R120). -/
theorem takeSnapshot_eq (s : State) :
    takeSnapshot s = s.copyCapture.setSnapshotInterval
      (if s.cfg.data.timeout < elapsed s.nowPort s.spdTs then 0#32 else s.spdInt) := by
  have h := timedOut_iff s.cfg.data s.nowPort s.spdTs
  have e : takeSnapshot s = s.copyCapture.setSnapshotInterval
      (if timedOut s.cfg.data s.nowPort s.spdTs = true then 0#32 else s.spdInt) := rfl
  rw [e]
  by_cases hc : s.cfg.data.timeout < elapsed s.nowPort s.spdTs
  · rw [if_pos hc, if_pos (h.mpr hc)]
  · rw [if_neg hc, if_neg (fun ht => hc (h.mp ht))]

end Sys2Proof.Machine
end

