-- ==== Sys2Proof/Laws/Config.lean ====
section
/-! SUPPORT. Facts about configurations that pass R42, and a sufficient bound for its check 2. -/

namespace Sys2Proof.Laws

open Sys2Proof.Machine

/-- A truncating quotient is no larger in magnitude than its dividend. -/
theorem natAbs_tdiv_le (a b : Int) : (a.tdiv b).natAbs ≤ a.natAbs := by
  rw [Int.natAbs_tdiv]
  exact Nat.div_le_self _ _

/-- Check 2 at one rate, for a segment whose three terms are together below 2^31 in magnitude. -/
theorem datapathOk_of_small {c : SegmentCoeffs} {r : Nat}
    (h1 : (c.a2 * r).natAbs < 2 ^ 31)
    (h : (c.a2 * r * r).natAbs + (c.a1 * r).natAbs + c.a0.natAbs < 2 ^ 31) : datapathOk c r := by
  have hq := natAbs_tdiv_le (c.a2 * r * r) c.d2
  have hl := natAbs_tdiv_le (c.a1 * r) c.d1
  have hp := natAbs_tdiv_le ((c.a2 * r * r).tdiv c.d2 + (c.a1 * r).tdiv c.d1 + c.a0) c.d0
  simp only [datapathOk, polyIntermediates, List.mem_cons, List.not_mem_nil, or_false, forall_eq_or_imp,
    forall_eq, fitsS64, fitsS32, poly, quadraticTerm, linearTerm]
  omega

/-- The result bound check 2 gives, for the segment a rate selects. -/
theorem fitsS32_poly {d : CfgData} (hv : Valid d) {r : Nat} (hr : r ≤ rMax d) (k : Segment) :
    fitsS32 (poly (coeffsOf d.cal k) r) := by
  obtain ⟨-, -, -, -, -, -, -, h⟩ := hv
  obtain ⟨h0, h1, h2⟩ := h r hr
  cases k
  exacts [h0.2, h1.2, h2.2]

end Sys2Proof.Laws
end

