-- ==== Sys2Proof/Laws/Smoother.lean ====
section
/-! SUPPORT. The range of the smoother's parts (44_smoother R171, R172). -/

namespace Sys2Proof.Machine

/-- The delta of two directions stays within half a turn. -/
theorem shortestDelta_range {raw s : Int} (hr : 0 ≤ raw ∧ raw < 360) (hs : 0 ≤ s ∧ s < 512) :
    -180 ≤ shortestDelta raw s ∧ shortestDelta raw s ≤ 180 := by
  simp only [shortestDelta]
  split <;> [skip; split] <;> omega

/-- A gain of at most one makes no step longer than the delta. -/
theorem gainRound_natAbs_le {g : Nat} (hg : g ≤ 256) (d : Int) : (gainRound g d).natAbs ≤ d.natAbs := by
  have hm : (d.natAbs * g + 128) >>> 8 ≤ d.natAbs := by
    have : d.natAbs * g ≤ d.natAbs * 256 := Nat.mul_le_mul_left _ hg
    rw [Nat.shiftRight_eq_div_pow]
    omega
  simp only [gainRound, Int.natAbs_mul, Int.natAbs_natCast]
  rcases Int.lt_trichotomy d 0 with h | h | h
  · rw [Int.sign_eq_neg_one_of_neg h]; simpa using hm
  · subst h; simp
  · rw [Int.sign_eq_one_of_pos h]; simpa using hm

/-- The step has the sign of the delta. -/
theorem gainRound_sign (g : Nat) (d : Int) :
    (0 ≤ d → 0 ≤ gainRound g d) ∧ (d ≤ 0 → gainRound g d ≤ 0) := by
  simp only [gainRound]
  generalize (d.natAbs * g + 128) >>> 8 = m
  constructor <;> intro h
  · rcases Int.lt_or_eq_of_le h with h | h
    · rw [Int.sign_eq_one_of_pos h]; omega
    · subst h; simp
  · rcases Int.lt_or_eq_of_le h with h | h
    · rw [Int.sign_eq_neg_one_of_neg h]; omega
    · subst h; simp

/-- SMOOTH answers a direction in [0, 359] (44_smoother R172), also for a register value no run reaches. -/
theorem smooth_range {g : Nat} (hg : g ≤ 256) {s raw : Int} (hr : 0 ≤ raw ∧ raw < 360)
    (hs : 0 ≤ s ∧ s < 512) : 0 ≤ smooth g s raw ∧ smooth g s raw < 360 := by
  have hd : s < 360 ∨ shortestDelta raw s ≤ 179 := by simp only [shortestDelta]; split <;> [skip; split] <;> omega
  have hb := shortestDelta_range hr hs
  have ha := gainRound_natAbs_le hg (shortestDelta raw s)
  simp only [smooth, wrapDegrees]
  generalize gainRound g (shortestDelta raw s) = q at *
  generalize shortestDelta raw s = d at *
  split <;> [skip; split] <;> omega

end Sys2Proof.Machine
end

