-- ==== Sys2Proof/Laws/Cycle.lean ====
section
/-! SUPPORT. What a conditioning pass can do, said once, and the ranges of the values it writes. -/

namespace Sys2Proof.Machine

/-- What the speed check compares with: PREV_SPEED, or zero on a stalled cycle (43_deviation R150, R152). -/
def checkedAgainst (s : State) : Int := if s.sSpdInt = 0#32 then 0 else speedValue s.prevSpeed

/-- The speed check is strict (43_deviation R152). -/
theorem speedAccepted_iff (c : CfgData) (v p : Int) :
    speedAccepted c v p = true ↔ ((v - p).natAbs : Int) < speedLimit c (bandOf c v) := by
  simp [speedAccepted]

/-- When direction is skipped (43_deviation R154). -/
theorem directionSkipped_iff (s : State) :
    directionSkipped s = true ↔ s.sSpdInt = 0#32 ∨ s.sSpdInt < s.sDirInt := by
  simp [directionSkipped]

/-- The direction check and its complement case (43_deviation R156). -/
theorem directionAccepted_iff (limit raw previous : Int) :
    directionAccepted limit raw previous = true ↔
      ((raw - previous).natAbs : Int) < limit ∨ 360 - limit < ((raw - previous).natAbs : Int) := by
  simp [directionAccepted]

/-- The rate limit includes its bound (46_cycle R202). -/
theorem emissionDue_iff (c : CfgData) (now lastEmit : Word) :
    emissionDue c now lastEmit = true ↔ c.emitPeriod ≤ elapsed now lastEmit := by
  simp [emissionDue]

/-- The raw direction lies in [0, 359] (43_deviation R155). -/
theorem dirRaw_range (s : State) : 0 ≤ dirRaw s ∧ dirRaw s < 360 := by
  simp only [dirRaw]
  omega

/-- A direction written to its register reads back. -/
theorem degreesWord_toNat {v : Int} (h : 0 ≤ v ∧ v < 360) : ((degreesWord v).toNat : Int) = v := by
  simp only [degreesWord, BitVec.toNat_ofInt]
  omega

/-- A speed inside s32 written to its register reads back. -/
theorem speedWord_toInt {v : Int} (h : fitsS32 v) : (speedWord v).toInt = v := by
  obtain ⟨h1, h2⟩ := h
  rw [speedWord, if_pos ⟨h1, h2⟩, BitVec.toInt_ofInt]
  exact Int.bmod_eq_of_le (by norm_num; omega) (by norm_num; omega)

/-- The calibrated speed is never negative (42_calibration R133). -/
theorem cal_nonneg (c : CfgData) (sI : Word) : 0 ≤ cal c sI := by
  simp only [cal, calWith, speedAtRate]
  split
  · exact le_refl _
  · exact le_max_left _ _

/-- At an interval of at least DEBOUNCE the rate is at most RMAX (42_calibration R130). -/
theorem rotationRate_le_rMax {c : CfgData} {sI : Word} (h0 : sI ≠ 0#32) (h : c.debounce ≤ sI) :
    rotationRate sI ≤ rMax c := by
  have hs : sI.toNat ≠ 0 := fun hz => h0 (BitVec.eq_of_toNat_eq hz)
  have hd : c.debounce.toNat ≤ sI.toNat := BitVec.le_def.mp h
  exact Nat.div_le_div_left (by omega) (by omega)

/-- The calibrated speed fits s32 for an interval that is zero or at least DEBOUNCE (10_state R42;
42_calibration R133). -/
theorem cal_fitsS32 {c : CfgData} (hv : Valid c) {sI : Word} (h : sI = 0#32 ∨ c.debounce ≤ sI) :
    fitsS32 (cal c sI) := by
  simp only [cal, calWith, speedAtRate]
  split
  · decide
  · have hr := rotationRate_le_rMax ‹_› (h.resolve_left ‹_›)
    have hp := Laws.fitsS32_poly hv hr (segmentOf (rotationRate sI))
    obtain ⟨h1, h2⟩ := hp
    exact ⟨by omega, by omega⟩

/-- SPEED_STEP in one equation: the stall reset of PREV_SPEED is seen only by the check (43_deviation R153). -/
theorem speedStep_eq (v : Int) (s : State) :
    speedStep v s =
      if speedAccepted s.cfg.data v (checkedAgainst s) then
        (true, bandOf s.cfg.data v, (s.setPrevSpeed (speedWord v)).acceptSpeed (speedWord v))
      else (false, bandOf s.cfg.data v, (s.setPrevSpeed (speedWord v)).rejectSpeed) := by
  unfold speedStep resetPrevSpeedOnStall checkedAgainst
  by_cases h : s.sSpdInt = 0#32
  · simp only [h, if_true, State.setPrevSpeed_cfg, State.setPrevSpeed_prevSpeed]
    rfl
  · simp only [if_neg h]

/-- DIR_STEP in one equation: an accepted direction always becomes PREV_DIR, a rejected one only under
ON_COMPUTE (43_deviation R156). -/
theorem dirStep_eq (b : Band) (s : State) :
    dirStep b s =
      if directionAccepted (dirLimit s.cfg.data b) (dirRaw s) (degreesValue s.prevDir) then
        ((s.setPrevDir (degreesWord (dirRaw s))).setSmoothDir
          (degreesWord (smooth s.cfg.data.gainQ8.toNat (degreesValue s.smoothDir) (dirRaw s)))).setDirStat
            .accepted
      else if s.cfg.data.prevDirPolicy = .onCompute then
        (s.setPrevDir (degreesWord (dirRaw s))).setDirStat .rejected
      else s.setDirStat .rejected := by
  unfold dirStep
  by_cases hok : directionAccepted (dirLimit s.cfg.data b) (dirRaw s) (degreesValue s.prevDir) = true
  · simp only [hok, if_true]
    cases s.cfg.data.prevDirPolicy <;> rfl
  · simp only [hok, Bool.false_eq_true, if_false]
    cases hp : s.cfg.data.prevDirPolicy
    · rw [if_pos rfl]
    · rw [if_neg (by decide)]

/-- The state a conditioning pass hands to the direction pass when the speed v is accepted. -/
def speedAcceptedState (s : State) (v : Int) : State :=
  (s.setPrevSpeed (speedWord v)).acceptSpeed (speedWord v)

/-- CONDITION in one equation (46_cycle R200). -/
theorem conditionPass_eq (s : State) :
    conditionPass s =
      if speedAccepted s.cfg.data (cal s.cfg.data s.sSpdInt) (checkedAgainst s) then
        directionPass (bandOf s.cfg.data (cal s.cfg.data s.sSpdInt))
          (speedAcceptedState s (cal s.cfg.data s.sSpdInt))
      else (s.setPrevSpeed (speedWord (cal s.cfg.data s.sSpdInt))).rejectSpeed := by
  rw [conditionPass, speedStep_eq]
  by_cases h : speedAccepted s.cfg.data (cal s.cfg.data s.sSpdInt) (checkedAgainst s) = true
  · rw [if_pos h, if_pos h]; rfl
  · rw [if_neg h, if_neg h]

/-- The four outcomes of a conditioning pass: NOT_REACHED, SKIPPED, ACCEPTED, REJECTED (46_cycle R200). -/
theorem conditionPass_cases (s : State) :
    let v := cal s.cfg.data s.sSpdInt
    let t := speedAcceptedState s v
    conditionPass s = (s.setPrevSpeed (speedWord v)).rejectSpeed ∨
    (directionSkipped s = true ∧ conditionPass s = t.setDirStat .skipped) ∨
    conditionPass s = ((t.setPrevDir (degreesWord (dirRaw s))).setSmoothDir
      (degreesWord (smooth s.cfg.data.gainQ8.toNat (degreesValue s.smoothDir) (dirRaw s)))).setDirStat .accepted ∨
    conditionPass s = (t.setPrevDir (degreesWord (dirRaw s))).setDirStat .rejected ∨
    conditionPass s = t.setDirStat .rejected := by
  intro v t
  rw [conditionPass_eq]
  split
  · have hskip : directionSkipped t = directionSkipped s := rfl
    have hraw : dirRaw t = dirRaw s := rfl
    rw [directionPass]
    split
    · exact .inr (.inl ⟨by rw [← hskip]; assumption, rfl⟩)
    · rw [dirStep_eq]
      split
      · exact .inr (.inr (.inl rfl))
      · split
        · exact .inr (.inr (.inr (.inl rfl)))
        · exact .inr (.inr (.inr (.inr rfl)))
  · exact .inl rfl

/-- CYCLE is its parts: the snapshot, the conditioning pass, and the sentence when it is due (46_cycle R202). -/
theorem cyclePass_cases (s : State) :
    cyclePass s = conditionPass (takeSnapshot s) ∨ cyclePass s = emitSentence (conditionPass (takeSnapshot s)) := by
  unfold cyclePass
  simp only
  split
  · exact .inr rfl
  · exact .inl rfl

end Sys2Proof.Machine
end

