-- ==== Sys2Proof/Laws/Encoder.lean ====
section
/-! SUPPORT. The shape of the encoder's parts (45_encoder R181 to R185). -/

namespace Sys2Proof.Machine

/-- A decimal digit's code lies in '0' to '9'. -/
theorem decimalDigit_toNat {n : Nat} (h : n < 10) : (decimalDigit n).toNat = 48 + n := by
  simp only [decimalDigit, BitVec.toNat_ofNat]
  omega

/-- Every byte of a decimal representation is a digit. -/
theorem decimalDigits_digit (fuel n : Nat) :
    ∀ b ∈ decimalDigits fuel n, 48 ≤ b.toNat ∧ b.toNat ≤ 57 := by
  induction fuel generalizing n with
  | zero =>
    intro b hb
    rw [decimalDigits, List.mem_singleton] at hb
    subst hb
    rw [decimalDigit_toNat (by omega)]
    omega
  | succ k ih =>
    intro b hb
    rw [decimalDigits] at hb
    split at hb
    · rw [List.mem_singleton] at hb
      subst hb
      rw [decimalDigit_toNat ‹_›]
      omega
    · rcases List.mem_append.mp hb with h | h
      · exact ih _ b h
      · rw [List.mem_singleton] at h
        subst h
        rw [decimalDigit_toNat (by omega)]
        omega

/-- Every byte of DEC(n), for n ≥ 0, is a digit (45_encoder R181). -/
theorem dec_digit {n : Int} (h : 0 ≤ n) : ∀ b ∈ dec n, 48 ≤ b.toNat ∧ b.toNat ≤ 57 := by
  rw [dec, if_neg (by omega)]
  exact decimalDigits_digit _ _

/-- A hexadecimal digit is 7-bit ASCII (45_encoder R185). -/
theorem hexDigit_ascii (n : BitVec 4) : (hexDigit n).toNat < 128 := by
  revert n
  decide

/-- The body of a sentence is 7-bit ASCII (45_encoder R180, R184). -/
theorem sentenceBody_ascii {dir spd : Int} (hd : 0 ≤ dir) (hs : 0 ≤ spd) :
    ∀ b ∈ sentenceBody dir spd, b.toNat < 128 := by
  have hq : 0 ≤ spd.tdiv 100 := Int.tdiv_nonneg hs (by norm_num)
  have hm : 0 ≤ (spd % 100).tdiv 10 := Int.tdiv_nonneg (by omega) (by norm_num)
  have lit : ∀ l : List Byte, l.all (fun b => b.toNat < 128) = true → ∀ b ∈ l, b.toNat < 128 := by
    intro l hl b hb
    simpa using List.all_eq_true.mp hl b hb
  have num : ∀ n : Int, 0 ≤ n → ∀ b ∈ dec n, b.toNat < 128 := fun n hn b hb => by
    have := dec_digit hn b hb
    omega
  intro b hb
  simp only [sentenceBody, List.mem_append] at hb
  rcases hb with (((((h | h) | h) | h) | h) | h) | h
  exacts [lit _ (by decide) b h, num _ hd b h, lit _ (by decide) b h, num _ hq b h, lit _ (by decide) b h,
    num _ hm b h, lit _ (by decide) b h]

/-- A sentence is 7-bit ASCII (45_encoder R180). -/
theorem sentence_ascii {dir spd : Int} (hd : 0 ≤ dir) (hs : 0 ≤ spd) :
    ∀ b ∈ sentence dir spd, b.toNat < 128 := by
  intro b hb
  simp only [sentence, List.mem_append] at hb
  rcases hb with ((h | h) | h) | h
  · revert b; decide
  · exact sentenceBody_ascii hd hs b h
  · revert b; decide
  · simp only [hex2, List.mem_cons, List.not_mem_nil, or_false] at h
    rcases h with h | h <;> subst h <;> exact hexDigit_ascii _

end Sys2Proof.Machine
end

