-- ==== Sys2Proof/Laws/Frames.lean ====
section
/-! SUPPORT. The fields each operation leaves alone, one lemma a field: they are read off the operation's one spec
lemma, so that a later proof unfolds no operation. -/

namespace Sys2Proof.Machine

/-! ### SPD_EDGE (40_capture R102) -/

@[simp] theorem speedEdge_cfg (lvl : Level) (s : State) : (speedEdge lvl s).cfg = s.cfg := by
  obtain ⟨-, h⟩ | ⟨-, h⟩ := speedEdge_cases lvl s <;> simp only [h, State.captureSpeed_cfg]
@[simp] theorem speedEdge_dirTs (lvl : Level) (s : State) : (speedEdge lvl s).dirTs = s.dirTs := by
  obtain ⟨-, h⟩ | ⟨-, h⟩ := speedEdge_cases lvl s <;> simp only [h, State.captureSpeed_dirTs]
@[simp] theorem speedEdge_sSpdTs (lvl : Level) (s : State) : (speedEdge lvl s).sSpdTs = s.sSpdTs := by
  obtain ⟨-, h⟩ | ⟨-, h⟩ := speedEdge_cases lvl s <;> simp only [h, State.captureSpeed_sSpdTs]
@[simp] theorem speedEdge_sDirTs (lvl : Level) (s : State) : (speedEdge lvl s).sDirTs = s.sDirTs := by
  obtain ⟨-, h⟩ | ⟨-, h⟩ := speedEdge_cases lvl s <;> simp only [h, State.captureSpeed_sDirTs]
@[simp] theorem speedEdge_sSpdInt (lvl : Level) (s : State) : (speedEdge lvl s).sSpdInt = s.sSpdInt := by
  obtain ⟨-, h⟩ | ⟨-, h⟩ := speedEdge_cases lvl s <;> simp only [h, State.captureSpeed_sSpdInt]
@[simp] theorem speedEdge_sDirInt (lvl : Level) (s : State) : (speedEdge lvl s).sDirInt = s.sDirInt := by
  obtain ⟨-, h⟩ | ⟨-, h⟩ := speedEdge_cases lvl s <;> simp only [h, State.captureSpeed_sDirInt]
@[simp] theorem speedEdge_prevSpeed (lvl : Level) (s : State) : (speedEdge lvl s).prevSpeed = s.prevSpeed := by
  obtain ⟨-, h⟩ | ⟨-, h⟩ := speedEdge_cases lvl s <;> simp only [h, State.captureSpeed_prevSpeed]
@[simp] theorem speedEdge_prevDir (lvl : Level) (s : State) : (speedEdge lvl s).prevDir = s.prevDir := by
  obtain ⟨-, h⟩ | ⟨-, h⟩ := speedEdge_cases lvl s <;> simp only [h, State.captureSpeed_prevDir]
@[simp] theorem speedEdge_smoothDir (lvl : Level) (s : State) : (speedEdge lvl s).smoothDir = s.smoothDir := by
  obtain ⟨-, h⟩ | ⟨-, h⟩ := speedEdge_cases lvl s <;> simp only [h, State.captureSpeed_smoothDir]
@[simp] theorem speedEdge_curSpeed (lvl : Level) (s : State) : (speedEdge lvl s).curSpeed = s.curSpeed := by
  obtain ⟨-, h⟩ | ⟨-, h⟩ := speedEdge_cases lvl s <;> simp only [h, State.captureSpeed_curSpeed]
@[simp] theorem speedEdge_speedRej (lvl : Level) (s : State) : (speedEdge lvl s).speedRej = s.speedRej := by
  obtain ⟨-, h⟩ | ⟨-, h⟩ := speedEdge_cases lvl s <;> simp only [h, State.captureSpeed_speedRej]
@[simp] theorem speedEdge_dirStat (lvl : Level) (s : State) : (speedEdge lvl s).dirStat = s.dirStat := by
  obtain ⟨-, h⟩ | ⟨-, h⟩ := speedEdge_cases lvl s <;> simp only [h, State.captureSpeed_dirStat]
@[simp] theorem speedEdge_stall (lvl : Level) (s : State) : (speedEdge lvl s).stall = s.stall := by
  obtain ⟨-, h⟩ | ⟨-, h⟩ := speedEdge_cases lvl s <;> simp only [h, State.captureSpeed_stall]
@[simp] theorem speedEdge_lastEmit (lvl : Level) (s : State) : (speedEdge lvl s).lastEmit = s.lastEmit := by
  obtain ⟨-, h⟩ | ⟨-, h⟩ := speedEdge_cases lvl s <;> simp only [h, State.captureSpeed_lastEmit]
@[simp] theorem speedEdge_out (lvl : Level) (s : State) : (speedEdge lvl s).out = s.out := by
  obtain ⟨-, h⟩ | ⟨-, h⟩ := speedEdge_cases lvl s <;> simp only [h, State.captureSpeed_out]
@[simp] theorem speedEdge_fault (lvl : Level) (s : State) : (speedEdge lvl s).fault = s.fault := by
  obtain ⟨-, h⟩ | ⟨-, h⟩ := speedEdge_cases lvl s <;> simp only [h, State.captureSpeed_fault]
@[simp] theorem speedEdge_faultReason (lvl : Level) (s : State) : (speedEdge lvl s).faultReason = s.faultReason := by
  obtain ⟨-, h⟩ | ⟨-, h⟩ := speedEdge_cases lvl s <;> simp only [h, State.captureSpeed_faultReason]
@[simp] theorem speedEdge_nowPort (lvl : Level) (s : State) : (speedEdge lvl s).nowPort = s.nowPort := by
  obtain ⟨-, h⟩ | ⟨-, h⟩ := speedEdge_cases lvl s <;> simp only [h, State.captureSpeed_nowPort]
@[simp] theorem speedEdge_inputs (lvl : Level) (s : State) : (speedEdge lvl s).inputs = s.inputs := by
  obtain ⟨-, h⟩ | ⟨-, h⟩ := speedEdge_cases lvl s <;> simp only [h, State.captureSpeed_inputs]

/-! ### DIR_EDGE (40_capture R104) -/

@[simp] theorem dirEdge_cfg (lvl : Level) (s : State) : (dirEdge lvl s).cfg = s.cfg := by
  obtain ⟨-, h⟩ | ⟨-, h⟩ := dirEdge_cases lvl s <;> simp only [h, State.captureDir_cfg]
@[simp] theorem dirEdge_spdTs (lvl : Level) (s : State) : (dirEdge lvl s).spdTs = s.spdTs := by
  obtain ⟨-, h⟩ | ⟨-, h⟩ := dirEdge_cases lvl s <;> simp only [h, State.captureDir_spdTs]
@[simp] theorem dirEdge_spdInt (lvl : Level) (s : State) : (dirEdge lvl s).spdInt = s.spdInt := by
  obtain ⟨-, h⟩ | ⟨-, h⟩ := dirEdge_cases lvl s <;> simp only [h, State.captureDir_spdInt]
@[simp] theorem dirEdge_dirInt (lvl : Level) (s : State) : (dirEdge lvl s).dirInt = s.dirInt := by
  obtain ⟨-, h⟩ | ⟨-, h⟩ := dirEdge_cases lvl s <;> simp only [h, State.captureDir_dirInt]
@[simp] theorem dirEdge_newData (lvl : Level) (s : State) : (dirEdge lvl s).newData = s.newData := by
  obtain ⟨-, h⟩ | ⟨-, h⟩ := dirEdge_cases lvl s <;> simp only [h, State.captureDir_newData]
@[simp] theorem dirEdge_sSpdTs (lvl : Level) (s : State) : (dirEdge lvl s).sSpdTs = s.sSpdTs := by
  obtain ⟨-, h⟩ | ⟨-, h⟩ := dirEdge_cases lvl s <;> simp only [h, State.captureDir_sSpdTs]
@[simp] theorem dirEdge_sDirTs (lvl : Level) (s : State) : (dirEdge lvl s).sDirTs = s.sDirTs := by
  obtain ⟨-, h⟩ | ⟨-, h⟩ := dirEdge_cases lvl s <;> simp only [h, State.captureDir_sDirTs]
@[simp] theorem dirEdge_sSpdInt (lvl : Level) (s : State) : (dirEdge lvl s).sSpdInt = s.sSpdInt := by
  obtain ⟨-, h⟩ | ⟨-, h⟩ := dirEdge_cases lvl s <;> simp only [h, State.captureDir_sSpdInt]
@[simp] theorem dirEdge_sDirInt (lvl : Level) (s : State) : (dirEdge lvl s).sDirInt = s.sDirInt := by
  obtain ⟨-, h⟩ | ⟨-, h⟩ := dirEdge_cases lvl s <;> simp only [h, State.captureDir_sDirInt]
@[simp] theorem dirEdge_prevSpeed (lvl : Level) (s : State) : (dirEdge lvl s).prevSpeed = s.prevSpeed := by
  obtain ⟨-, h⟩ | ⟨-, h⟩ := dirEdge_cases lvl s <;> simp only [h, State.captureDir_prevSpeed]
@[simp] theorem dirEdge_prevDir (lvl : Level) (s : State) : (dirEdge lvl s).prevDir = s.prevDir := by
  obtain ⟨-, h⟩ | ⟨-, h⟩ := dirEdge_cases lvl s <;> simp only [h, State.captureDir_prevDir]
@[simp] theorem dirEdge_smoothDir (lvl : Level) (s : State) : (dirEdge lvl s).smoothDir = s.smoothDir := by
  obtain ⟨-, h⟩ | ⟨-, h⟩ := dirEdge_cases lvl s <;> simp only [h, State.captureDir_smoothDir]
@[simp] theorem dirEdge_curSpeed (lvl : Level) (s : State) : (dirEdge lvl s).curSpeed = s.curSpeed := by
  obtain ⟨-, h⟩ | ⟨-, h⟩ := dirEdge_cases lvl s <;> simp only [h, State.captureDir_curSpeed]
@[simp] theorem dirEdge_speedRej (lvl : Level) (s : State) : (dirEdge lvl s).speedRej = s.speedRej := by
  obtain ⟨-, h⟩ | ⟨-, h⟩ := dirEdge_cases lvl s <;> simp only [h, State.captureDir_speedRej]
@[simp] theorem dirEdge_dirStat (lvl : Level) (s : State) : (dirEdge lvl s).dirStat = s.dirStat := by
  obtain ⟨-, h⟩ | ⟨-, h⟩ := dirEdge_cases lvl s <;> simp only [h, State.captureDir_dirStat]
@[simp] theorem dirEdge_stall (lvl : Level) (s : State) : (dirEdge lvl s).stall = s.stall := by
  obtain ⟨-, h⟩ | ⟨-, h⟩ := dirEdge_cases lvl s <;> simp only [h, State.captureDir_stall]
@[simp] theorem dirEdge_lastEmit (lvl : Level) (s : State) : (dirEdge lvl s).lastEmit = s.lastEmit := by
  obtain ⟨-, h⟩ | ⟨-, h⟩ := dirEdge_cases lvl s <;> simp only [h, State.captureDir_lastEmit]
@[simp] theorem dirEdge_out (lvl : Level) (s : State) : (dirEdge lvl s).out = s.out := by
  obtain ⟨-, h⟩ | ⟨-, h⟩ := dirEdge_cases lvl s <;> simp only [h, State.captureDir_out]
@[simp] theorem dirEdge_fault (lvl : Level) (s : State) : (dirEdge lvl s).fault = s.fault := by
  obtain ⟨-, h⟩ | ⟨-, h⟩ := dirEdge_cases lvl s <;> simp only [h, State.captureDir_fault]
@[simp] theorem dirEdge_faultReason (lvl : Level) (s : State) : (dirEdge lvl s).faultReason = s.faultReason := by
  obtain ⟨-, h⟩ | ⟨-, h⟩ := dirEdge_cases lvl s <;> simp only [h, State.captureDir_faultReason]
@[simp] theorem dirEdge_nowPort (lvl : Level) (s : State) : (dirEdge lvl s).nowPort = s.nowPort := by
  obtain ⟨-, h⟩ | ⟨-, h⟩ := dirEdge_cases lvl s <;> simp only [h, State.captureDir_nowPort]
@[simp] theorem dirEdge_inputs (lvl : Level) (s : State) : (dirEdge lvl s).inputs = s.inputs := by
  obtain ⟨-, h⟩ | ⟨-, h⟩ := dirEdge_cases lvl s <;> simp only [h, State.captureDir_inputs]

/-! ### SNAPSHOT (41_snapshot R120) -/

@[simp] theorem takeSnapshot_cfg (s : State) : (takeSnapshot s).cfg = s.cfg := by
  simp only [takeSnapshot_eq, State.setSnapshotInterval_cfg, State.copyCapture_cfg]
@[simp] theorem takeSnapshot_spdTs (s : State) : (takeSnapshot s).spdTs = s.spdTs := by
  simp only [takeSnapshot_eq, State.setSnapshotInterval_spdTs, State.copyCapture_spdTs]
@[simp] theorem takeSnapshot_dirTs (s : State) : (takeSnapshot s).dirTs = s.dirTs := by
  simp only [takeSnapshot_eq, State.setSnapshotInterval_dirTs, State.copyCapture_dirTs]
@[simp] theorem takeSnapshot_spdInt (s : State) : (takeSnapshot s).spdInt = s.spdInt := by
  simp only [takeSnapshot_eq, State.setSnapshotInterval_spdInt, State.copyCapture_spdInt]
@[simp] theorem takeSnapshot_dirInt (s : State) : (takeSnapshot s).dirInt = s.dirInt := by
  simp only [takeSnapshot_eq, State.setSnapshotInterval_dirInt, State.copyCapture_dirInt]
@[simp] theorem takeSnapshot_prevSpeed (s : State) : (takeSnapshot s).prevSpeed = s.prevSpeed := by
  simp only [takeSnapshot_eq, State.setSnapshotInterval_prevSpeed, State.copyCapture_prevSpeed]
@[simp] theorem takeSnapshot_prevDir (s : State) : (takeSnapshot s).prevDir = s.prevDir := by
  simp only [takeSnapshot_eq, State.setSnapshotInterval_prevDir, State.copyCapture_prevDir]
@[simp] theorem takeSnapshot_smoothDir (s : State) : (takeSnapshot s).smoothDir = s.smoothDir := by
  simp only [takeSnapshot_eq, State.setSnapshotInterval_smoothDir, State.copyCapture_smoothDir]
@[simp] theorem takeSnapshot_curSpeed (s : State) : (takeSnapshot s).curSpeed = s.curSpeed := by
  simp only [takeSnapshot_eq, State.setSnapshotInterval_curSpeed, State.copyCapture_curSpeed]
@[simp] theorem takeSnapshot_speedRej (s : State) : (takeSnapshot s).speedRej = s.speedRej := by
  simp only [takeSnapshot_eq, State.setSnapshotInterval_speedRej, State.copyCapture_speedRej]
@[simp] theorem takeSnapshot_dirStat (s : State) : (takeSnapshot s).dirStat = s.dirStat := by
  simp only [takeSnapshot_eq, State.setSnapshotInterval_dirStat, State.copyCapture_dirStat]
@[simp] theorem takeSnapshot_lastEmit (s : State) : (takeSnapshot s).lastEmit = s.lastEmit := by
  simp only [takeSnapshot_eq, State.setSnapshotInterval_lastEmit, State.copyCapture_lastEmit]
@[simp] theorem takeSnapshot_out (s : State) : (takeSnapshot s).out = s.out := by
  simp only [takeSnapshot_eq, State.setSnapshotInterval_out, State.copyCapture_out]
@[simp] theorem takeSnapshot_fault (s : State) : (takeSnapshot s).fault = s.fault := by
  simp only [takeSnapshot_eq, State.setSnapshotInterval_fault, State.copyCapture_fault]
@[simp] theorem takeSnapshot_faultReason (s : State) : (takeSnapshot s).faultReason = s.faultReason := by
  simp only [takeSnapshot_eq, State.setSnapshotInterval_faultReason, State.copyCapture_faultReason]
@[simp] theorem takeSnapshot_nowPort (s : State) : (takeSnapshot s).nowPort = s.nowPort := by
  simp only [takeSnapshot_eq, State.setSnapshotInterval_nowPort, State.copyCapture_nowPort]
@[simp] theorem takeSnapshot_inputs (s : State) : (takeSnapshot s).inputs = s.inputs := by
  simp only [takeSnapshot_eq, State.setSnapshotInterval_inputs, State.copyCapture_inputs]
@[simp] theorem takeSnapshot_sSpdTs (s : State) : (takeSnapshot s).sSpdTs = s.spdTs := by
  simp only [takeSnapshot_eq, State.setSnapshotInterval_sSpdTs, State.copyCapture_sSpdTs]
@[simp] theorem takeSnapshot_sDirTs (s : State) : (takeSnapshot s).sDirTs = s.dirTs := by
  simp only [takeSnapshot_eq, State.setSnapshotInterval_sDirTs, State.copyCapture_sDirTs]
@[simp] theorem takeSnapshot_sDirInt (s : State) : (takeSnapshot s).sDirInt = s.dirInt := by
  simp only [takeSnapshot_eq, State.setSnapshotInterval_sDirInt, State.copyCapture_sDirInt]
@[simp] theorem takeSnapshot_newData (s : State) : (takeSnapshot s).newData = false := by
  simp only [takeSnapshot_eq, State.setSnapshotInterval_newData, State.copyCapture_newData]

/-! ### CONDITION (46_cycle R200) -/

@[simp] theorem conditionPass_cfg (s : State) : (conditionPass s).cfg = s.cfg := by
  obtain h | ⟨-, h⟩ | h | h | h := conditionPass_cases s <;>
    simp only [h, speedAcceptedState, State.setPrevSpeed_cfg, State.rejectSpeed_cfg, State.acceptSpeed_cfg,
      State.setDirStat_cfg, State.setPrevDir_cfg, State.setSmoothDir_cfg]
@[simp] theorem conditionPass_spdTs (s : State) : (conditionPass s).spdTs = s.spdTs := by
  obtain h | ⟨-, h⟩ | h | h | h := conditionPass_cases s <;>
    simp only [h, speedAcceptedState, State.setPrevSpeed_spdTs, State.rejectSpeed_spdTs, State.acceptSpeed_spdTs,
      State.setDirStat_spdTs, State.setPrevDir_spdTs, State.setSmoothDir_spdTs]
@[simp] theorem conditionPass_dirTs (s : State) : (conditionPass s).dirTs = s.dirTs := by
  obtain h | ⟨-, h⟩ | h | h | h := conditionPass_cases s <;>
    simp only [h, speedAcceptedState, State.setPrevSpeed_dirTs, State.rejectSpeed_dirTs, State.acceptSpeed_dirTs,
      State.setDirStat_dirTs, State.setPrevDir_dirTs, State.setSmoothDir_dirTs]
@[simp] theorem conditionPass_spdInt (s : State) : (conditionPass s).spdInt = s.spdInt := by
  obtain h | ⟨-, h⟩ | h | h | h := conditionPass_cases s <;>
    simp only [h, speedAcceptedState, State.setPrevSpeed_spdInt, State.rejectSpeed_spdInt, State.acceptSpeed_spdInt,
      State.setDirStat_spdInt, State.setPrevDir_spdInt, State.setSmoothDir_spdInt]
@[simp] theorem conditionPass_dirInt (s : State) : (conditionPass s).dirInt = s.dirInt := by
  obtain h | ⟨-, h⟩ | h | h | h := conditionPass_cases s <;>
    simp only [h, speedAcceptedState, State.setPrevSpeed_dirInt, State.rejectSpeed_dirInt, State.acceptSpeed_dirInt,
      State.setDirStat_dirInt, State.setPrevDir_dirInt, State.setSmoothDir_dirInt]
@[simp] theorem conditionPass_newData (s : State) : (conditionPass s).newData = s.newData := by
  obtain h | ⟨-, h⟩ | h | h | h := conditionPass_cases s <;>
    simp only [h, speedAcceptedState, State.setPrevSpeed_newData, State.rejectSpeed_newData, State.acceptSpeed_newData,
      State.setDirStat_newData, State.setPrevDir_newData, State.setSmoothDir_newData]
@[simp] theorem conditionPass_sSpdTs (s : State) : (conditionPass s).sSpdTs = s.sSpdTs := by
  obtain h | ⟨-, h⟩ | h | h | h := conditionPass_cases s <;>
    simp only [h, speedAcceptedState, State.setPrevSpeed_sSpdTs, State.rejectSpeed_sSpdTs, State.acceptSpeed_sSpdTs,
      State.setDirStat_sSpdTs, State.setPrevDir_sSpdTs, State.setSmoothDir_sSpdTs]
@[simp] theorem conditionPass_sDirTs (s : State) : (conditionPass s).sDirTs = s.sDirTs := by
  obtain h | ⟨-, h⟩ | h | h | h := conditionPass_cases s <;>
    simp only [h, speedAcceptedState, State.setPrevSpeed_sDirTs, State.rejectSpeed_sDirTs, State.acceptSpeed_sDirTs,
      State.setDirStat_sDirTs, State.setPrevDir_sDirTs, State.setSmoothDir_sDirTs]
@[simp] theorem conditionPass_sSpdInt (s : State) : (conditionPass s).sSpdInt = s.sSpdInt := by
  obtain h | ⟨-, h⟩ | h | h | h := conditionPass_cases s <;>
    simp only [h, speedAcceptedState, State.setPrevSpeed_sSpdInt, State.rejectSpeed_sSpdInt, State.acceptSpeed_sSpdInt,
      State.setDirStat_sSpdInt, State.setPrevDir_sSpdInt, State.setSmoothDir_sSpdInt]
@[simp] theorem conditionPass_sDirInt (s : State) : (conditionPass s).sDirInt = s.sDirInt := by
  obtain h | ⟨-, h⟩ | h | h | h := conditionPass_cases s <;>
    simp only [h, speedAcceptedState, State.setPrevSpeed_sDirInt, State.rejectSpeed_sDirInt, State.acceptSpeed_sDirInt,
      State.setDirStat_sDirInt, State.setPrevDir_sDirInt, State.setSmoothDir_sDirInt]
@[simp] theorem conditionPass_stall (s : State) : (conditionPass s).stall = s.stall := by
  obtain h | ⟨-, h⟩ | h | h | h := conditionPass_cases s <;>
    simp only [h, speedAcceptedState, State.setPrevSpeed_stall, State.rejectSpeed_stall, State.acceptSpeed_stall,
      State.setDirStat_stall, State.setPrevDir_stall, State.setSmoothDir_stall]
@[simp] theorem conditionPass_lastEmit (s : State) : (conditionPass s).lastEmit = s.lastEmit := by
  obtain h | ⟨-, h⟩ | h | h | h := conditionPass_cases s <;>
    simp only [h, speedAcceptedState, State.setPrevSpeed_lastEmit, State.rejectSpeed_lastEmit, State.acceptSpeed_lastEmit,
      State.setDirStat_lastEmit, State.setPrevDir_lastEmit, State.setSmoothDir_lastEmit]
@[simp] theorem conditionPass_out (s : State) : (conditionPass s).out = s.out := by
  obtain h | ⟨-, h⟩ | h | h | h := conditionPass_cases s <;>
    simp only [h, speedAcceptedState, State.setPrevSpeed_out, State.rejectSpeed_out, State.acceptSpeed_out,
      State.setDirStat_out, State.setPrevDir_out, State.setSmoothDir_out]
@[simp] theorem conditionPass_fault (s : State) : (conditionPass s).fault = s.fault := by
  obtain h | ⟨-, h⟩ | h | h | h := conditionPass_cases s <;>
    simp only [h, speedAcceptedState, State.setPrevSpeed_fault, State.rejectSpeed_fault, State.acceptSpeed_fault,
      State.setDirStat_fault, State.setPrevDir_fault, State.setSmoothDir_fault]
@[simp] theorem conditionPass_faultReason (s : State) : (conditionPass s).faultReason = s.faultReason := by
  obtain h | ⟨-, h⟩ | h | h | h := conditionPass_cases s <;>
    simp only [h, speedAcceptedState, State.setPrevSpeed_faultReason, State.rejectSpeed_faultReason, State.acceptSpeed_faultReason,
      State.setDirStat_faultReason, State.setPrevDir_faultReason, State.setSmoothDir_faultReason]
@[simp] theorem conditionPass_nowPort (s : State) : (conditionPass s).nowPort = s.nowPort := by
  obtain h | ⟨-, h⟩ | h | h | h := conditionPass_cases s <;>
    simp only [h, speedAcceptedState, State.setPrevSpeed_nowPort, State.rejectSpeed_nowPort, State.acceptSpeed_nowPort,
      State.setDirStat_nowPort, State.setPrevDir_nowPort, State.setSmoothDir_nowPort]
@[simp] theorem conditionPass_inputs (s : State) : (conditionPass s).inputs = s.inputs := by
  obtain h | ⟨-, h⟩ | h | h | h := conditionPass_cases s <;>
    simp only [h, speedAcceptedState, State.setPrevSpeed_inputs, State.rejectSpeed_inputs, State.acceptSpeed_inputs,
      State.setDirStat_inputs, State.setPrevDir_inputs, State.setSmoothDir_inputs]

/-! ### EMIT (45_encoder R186) -/

@[simp] theorem emitSentence_cfg (s : State) : (emitSentence s).cfg = s.cfg := by
  simp only [emitSentence, State.setLastEmit_cfg, State.emitBytes_cfg]
@[simp] theorem emitSentence_spdTs (s : State) : (emitSentence s).spdTs = s.spdTs := by
  simp only [emitSentence, State.setLastEmit_spdTs, State.emitBytes_spdTs]
@[simp] theorem emitSentence_dirTs (s : State) : (emitSentence s).dirTs = s.dirTs := by
  simp only [emitSentence, State.setLastEmit_dirTs, State.emitBytes_dirTs]
@[simp] theorem emitSentence_spdInt (s : State) : (emitSentence s).spdInt = s.spdInt := by
  simp only [emitSentence, State.setLastEmit_spdInt, State.emitBytes_spdInt]
@[simp] theorem emitSentence_dirInt (s : State) : (emitSentence s).dirInt = s.dirInt := by
  simp only [emitSentence, State.setLastEmit_dirInt, State.emitBytes_dirInt]
@[simp] theorem emitSentence_newData (s : State) : (emitSentence s).newData = s.newData := by
  simp only [emitSentence, State.setLastEmit_newData, State.emitBytes_newData]
@[simp] theorem emitSentence_sSpdTs (s : State) : (emitSentence s).sSpdTs = s.sSpdTs := by
  simp only [emitSentence, State.setLastEmit_sSpdTs, State.emitBytes_sSpdTs]
@[simp] theorem emitSentence_sDirTs (s : State) : (emitSentence s).sDirTs = s.sDirTs := by
  simp only [emitSentence, State.setLastEmit_sDirTs, State.emitBytes_sDirTs]
@[simp] theorem emitSentence_sSpdInt (s : State) : (emitSentence s).sSpdInt = s.sSpdInt := by
  simp only [emitSentence, State.setLastEmit_sSpdInt, State.emitBytes_sSpdInt]
@[simp] theorem emitSentence_sDirInt (s : State) : (emitSentence s).sDirInt = s.sDirInt := by
  simp only [emitSentence, State.setLastEmit_sDirInt, State.emitBytes_sDirInt]
@[simp] theorem emitSentence_prevSpeed (s : State) : (emitSentence s).prevSpeed = s.prevSpeed := by
  simp only [emitSentence, State.setLastEmit_prevSpeed, State.emitBytes_prevSpeed]
@[simp] theorem emitSentence_prevDir (s : State) : (emitSentence s).prevDir = s.prevDir := by
  simp only [emitSentence, State.setLastEmit_prevDir, State.emitBytes_prevDir]
@[simp] theorem emitSentence_smoothDir (s : State) : (emitSentence s).smoothDir = s.smoothDir := by
  simp only [emitSentence, State.setLastEmit_smoothDir, State.emitBytes_smoothDir]
@[simp] theorem emitSentence_curSpeed (s : State) : (emitSentence s).curSpeed = s.curSpeed := by
  simp only [emitSentence, State.setLastEmit_curSpeed, State.emitBytes_curSpeed]
@[simp] theorem emitSentence_speedRej (s : State) : (emitSentence s).speedRej = s.speedRej := by
  simp only [emitSentence, State.setLastEmit_speedRej, State.emitBytes_speedRej]
@[simp] theorem emitSentence_dirStat (s : State) : (emitSentence s).dirStat = s.dirStat := by
  simp only [emitSentence, State.setLastEmit_dirStat, State.emitBytes_dirStat]
@[simp] theorem emitSentence_stall (s : State) : (emitSentence s).stall = s.stall := by
  simp only [emitSentence, State.setLastEmit_stall, State.emitBytes_stall]
@[simp] theorem emitSentence_fault (s : State) : (emitSentence s).fault = s.fault := by
  simp only [emitSentence, State.setLastEmit_fault, State.emitBytes_fault]
@[simp] theorem emitSentence_faultReason (s : State) : (emitSentence s).faultReason = s.faultReason := by
  simp only [emitSentence, State.setLastEmit_faultReason, State.emitBytes_faultReason]
@[simp] theorem emitSentence_nowPort (s : State) : (emitSentence s).nowPort = s.nowPort := by
  simp only [emitSentence, State.setLastEmit_nowPort, State.emitBytes_nowPort]
@[simp] theorem emitSentence_inputs (s : State) : (emitSentence s).inputs = s.inputs := by
  simp only [emitSentence, State.setLastEmit_inputs, State.emitBytes_inputs]

/-! ### CYCLE (46_cycle R202) -/

@[simp] theorem cyclePass_cfg (s : State) : (cyclePass s).cfg = s.cfg := by
  obtain h | h := cyclePass_cases s <;>
    simp only [h, emitSentence_cfg, conditionPass_cfg, takeSnapshot_cfg]
@[simp] theorem cyclePass_spdTs (s : State) : (cyclePass s).spdTs = s.spdTs := by
  obtain h | h := cyclePass_cases s <;>
    simp only [h, emitSentence_spdTs, conditionPass_spdTs, takeSnapshot_spdTs]
@[simp] theorem cyclePass_dirTs (s : State) : (cyclePass s).dirTs = s.dirTs := by
  obtain h | h := cyclePass_cases s <;>
    simp only [h, emitSentence_dirTs, conditionPass_dirTs, takeSnapshot_dirTs]
@[simp] theorem cyclePass_spdInt (s : State) : (cyclePass s).spdInt = s.spdInt := by
  obtain h | h := cyclePass_cases s <;>
    simp only [h, emitSentence_spdInt, conditionPass_spdInt, takeSnapshot_spdInt]
@[simp] theorem cyclePass_dirInt (s : State) : (cyclePass s).dirInt = s.dirInt := by
  obtain h | h := cyclePass_cases s <;>
    simp only [h, emitSentence_dirInt, conditionPass_dirInt, takeSnapshot_dirInt]
@[simp] theorem cyclePass_fault (s : State) : (cyclePass s).fault = s.fault := by
  obtain h | h := cyclePass_cases s <;>
    simp only [h, emitSentence_fault, conditionPass_fault, takeSnapshot_fault]
@[simp] theorem cyclePass_faultReason (s : State) : (cyclePass s).faultReason = s.faultReason := by
  obtain h | h := cyclePass_cases s <;>
    simp only [h, emitSentence_faultReason, conditionPass_faultReason, takeSnapshot_faultReason]
@[simp] theorem cyclePass_nowPort (s : State) : (cyclePass s).nowPort = s.nowPort := by
  obtain h | h := cyclePass_cases s <;>
    simp only [h, emitSentence_nowPort, conditionPass_nowPort, takeSnapshot_nowPort]
@[simp] theorem cyclePass_inputs (s : State) : (cyclePass s).inputs = s.inputs := by
  obtain h | h := cyclePass_cases s <;>
    simp only [h, emitSentence_inputs, conditionPass_inputs, takeSnapshot_inputs]

/-! ### CYCLE's rate limit, in the registers before it (46_cycle R202) -/

/-- CYCLE emits exactly when EMIT_PERIOD has passed since LAST_EMIT, which its first two parts leave alone. -/
theorem cyclePass_eq (s : State) :
    cyclePass s =
      if s.cfg.data.emitPeriod ≤ elapsed s.nowPort s.lastEmit then emitSentence (conditionPass (takeSnapshot s))
      else conditionPass (takeSnapshot s) := by
  have e := emissionDue_iff (conditionPass (takeSnapshot s)).cfg.data (conditionPass (takeSnapshot s)).nowPort
    (conditionPass (takeSnapshot s)).lastEmit
  simp only [conditionPass_cfg, takeSnapshot_cfg, conditionPass_nowPort, takeSnapshot_nowPort,
    conditionPass_lastEmit, takeSnapshot_lastEmit] at e
  unfold cyclePass
  simp only [conditionPass_cfg, takeSnapshot_cfg, State.now, conditionPass_nowPort, takeSnapshot_nowPort,
    conditionPass_lastEmit, takeSnapshot_lastEmit]
  by_cases h : s.cfg.data.emitPeriod ≤ elapsed s.nowPort s.lastEmit
  · rw [if_pos h, if_pos (e.mpr h)]
  · rw [if_neg h, if_neg (fun hc => h (e.mp hc))]

end Sys2Proof.Machine
end

