-- ==== Sys2Proof/Laws/PerInstr.lean ====
section
/-! SUPPORT. Statements made for each instruction: the three fields of an instruction's word, read back from the
word as 30_encoding R70 cuts it, are the fields the encoding tables give the instruction. -/

namespace Sys2Proof.Laws

/-- Cutting a word into its fields gives the fields it was built from. -/
theorem fields_opWord (rsv : BitVec 4) (lvl : Level) (opc : BitVec 3) :
    rsvField (opWord rsv lvl opc) = rsv ∧ lvlField (opWord rsv lvl opc) = lvl ∧
      opcField (opWord rsv lvl opc) = opc := by
  revert rsv opc
  cases lvl <;> decide

/-- The word of i has i's RSV, LVL and OPC (30_encoding R70, R72). -/
def EncodedFields.Statement (i : Instr) : Prop :=
  rsvField (encode i) = i.rsvBits ∧ lvlField (encode i) = i.level ∧ opcField (encode i) = i.opcBits

theorem EncodedFields.nop : EncodedFields.Statement .nop := fields_opWord _ _ _

theorem EncodedFields.spdEdge (lvl : Level) : EncodedFields.Statement (.spdEdge lvl) := fields_opWord _ _ _

theorem EncodedFields.dirEdge (lvl : Level) : EncodedFields.Statement (.dirEdge lvl) := fields_opWord _ _ _

theorem EncodedFields.snapshot : EncodedFields.Statement .snapshot := fields_opWord _ _ _

theorem EncodedFields.condition : EncodedFields.Statement .condition := fields_opWord _ _ _

theorem EncodedFields.emit : EncodedFields.Statement .emit := fields_opWord _ _ _

theorem EncodedFields.cycle : EncodedFields.Statement .cycle := fields_opWord _ _ _

theorem EncodedFields.reservedOp (rsv : BitVec 4) (lvl : Level) :
    EncodedFields.Statement (.reservedOp rsv lvl) := fields_opWord _ _ _

theorem EncodedFields.reservedBits (rsv : BitVec 4) (lvl : Level) (opc : BitVec 3) :
    EncodedFields.Statement (.reservedBits rsv lvl opc) := fields_opWord _ _ _

end Sys2Proof.Laws
end

