-- ==== Sys2Proof/Laws/Step.lean ====
section
/-! SUPPORT. What one operation and one step can do, said once. -/

namespace Sys2Proof.Machine

/-- The state an operation leaves: every operation of PECD completes. -/
def effect (i : Instr) (s : State) : State :=
  match i with
  | .nop => s
  | .spdEdge lvl => speedEdge lvl s
  | .dirEdge lvl => dirEdge lvl s
  | .snapshot => takeSnapshot s
  | .condition => conditionPass s
  | .emit => emitSentence s
  | .cycle => cyclePass s
  | .reservedOp _ _ => s.raiseFault .reservedOp
  | .reservedBits _ _ _ => s.raiseFault .reservedBits

/-- Every operation answers a next state (60_exceptions: "No condition is fatal"). -/
theorem exec_eq_next (i : Instr) (s : State) : exec i s = .next (effect i s) := by
  cases i <;> rfl

/-- If an operation answers t, then t is its effect. -/
theorem exec_next_iff {i : Instr} {s t : State} : exec i s = .next t ↔ t = effect i s := by
  rw [exec_eq_next, Host.Outcome.next.injEq, eq_comm]

/-- The three things a step can be: nothing presented, reset, or one operation. -/
theorem step_cases {s t : State} (h : step s = .next t) :
    (s.inputs = [] ∧ t = s) ∨
    (∃ rest, s.inputs = .rst :: rest ∧ t = s.assertReset rest) ∨
    (∃ word now rest, s.inputs = .op word now :: rest ∧ t = effect (decode word) (s.presentOp now rest)) := by
  unfold step at h
  split at h
  · rename_i hi
    cases h
    exact .inl ⟨hi, rfl⟩
  · rename_i rest hi
    cases h
    exact .inr (.inl ⟨rest, hi, rfl⟩)
  · rename_i word now rest hi
    exact .inr (.inr ⟨word, now, rest, hi, exec_next_iff.mp h⟩)

/-- An invariant that reset has, that presenting an operation keeps and that every operation keeps, is kept by
every step. -/
theorem step_keeps {P : State → Prop} (hreset : ∀ s rest, P s → P (s.assertReset rest))
    (hpresent : ∀ s now rest, P s → P (s.presentOp now rest)) (heffect : ∀ i s, P s → P (effect i s))
    {s t : State} (hs : P s) (h : step s = .next t) : P t := by
  obtain ⟨-, rfl⟩ | ⟨rest, -, rfl⟩ | ⟨word, now, rest, -, rfl⟩ := step_cases h
  exacts [hs, hreset _ _ hs, heffect _ _ (hpresent _ _ _ hs)]

/-- Placing an instruction's bits presents the word from which the decoder reads that instruction. -/
theorem decode_placedWord {nbits w : Nat} {i : Instr} (h : decodeTableWord nbits w = some i) :
    decode (placedWord nbits w) = i := by
  unfold decodeTableWord at h
  split at h
  · simpa [placedWord, decodeBytes, Nat.mod_eq_of_lt (‹_ ∧ _› : _ ∧ _).2] using h
  · cases h

/-- A run whose first step answers t goes on from t. -/
theorem run_of_step_next (M : Host.Core) (k : Nat) {s t : M.State} (h : M.step s = .next t) :
    M.run (k + 1) s = M.run k t := by
  rw [Host.Core.run, h]

/-- A run of k + 1 steps whose first input is an operation. -/
theorem run_op {s : State} {word : Byte} {now : Word} {rest : List HostInput} (k : Nat)
    (h : s.inputs = .op word now :: rest) :
    core.run (k + 1) s = core.run k (effect (decode word) (s.presentOp now rest)) := by
  refine run_of_step_next core k ?_
  show step s = _
  rw [step, h]
  exact exec_eq_next _ _

end Sys2Proof.Machine
end

