-- ==== Sys2Proof/Tests/Slice0.lean ====
section
/-! SUPPORT. The model's own tests, with the spec's numbers (95_test_vectors, 30_encoding R78), and one witness for
each obligation that has hypotheses: a concrete state and operands that meet all of them. -/

namespace Sys2Proof.Tests

open Sys2Proof.Machine Sys2Proof.Laws

/-! ### The test configuration -/

/-- The OPEN parameters of the test configuration TC (95_test_vectors section 0). -/
def tcParameters : OpenParameters where
  cal := ⟨⟨0, 1, 2, 1, -20, 2⟩, ⟨1, 1000, 1, 1, -114, 1⟩, ⟨-1, 100000, 13, 1, -35501, 1⟩⟩
  dirOffset := 0#9
  spdLim := ⟨500#32, 1000#32, 3000#32⟩
  dirLim := ⟨30#8, 20#8, 10#8⟩
  emitPeriod := 500000#32

/-- "TC passes every check of 10_state.md rule R42" (95_test_vectors section 0). -/
theorem test_tc_valid : Valid (cfgDataWith tcParameters) := by
  refine ⟨by decide, by decide, by decide, by decide, by decide, by decide, rfl, ?_⟩
  intro r hr
  have hr : r ≤ 10000 := hr
  have hq : r * r ≤ 10000 * 10000 := Nat.mul_le_mul hr hr
  have hqi : (r : Int) * r = ((r * r : Nat) : Int) := by push_cast; rfl
  refine ⟨datapathOk_of_small ?_ ?_, datapathOk_of_small ?_ ?_, datapathOk_of_small ?_ ?_⟩ <;>
    simp only [cfgDataWith, tcParameters, zero_mul, one_mul, neg_mul, hqi] <;> omega

/-- TC. -/
def tc : Cfg := ⟨cfgDataWith tcParameters, test_tc_valid⟩

/-- TC with PREV_DIR_POLICY = ON_ACCEPT. -/
def tcOnAccept : Cfg := ⟨{ cfgDataWith tcParameters with prevDirPolicy := .onAccept }, test_tc_valid⟩

/-- The reset state under TC. -/
def base : State := { State.reset with cfg := tc }

/-- Some field values of the state an operation leaves; none where it stops. -/
def after {α : Type} (f : State → α) (i : Instr) (s : State) : Option α :=
  match exec i s with
  | .next t => some (f t)
  | .fault _ => none
  | .refused _ => none

/-! ### The eight checks of 10_state R42, each with a record that fails it -/

theorem test_check1_zero_divisor :
    ¬ check1 { cfgDataWith tcParameters with cal.seg1 := ⟨1, 0, 1, 1, -114, 1⟩ } := by decide

/-- With DEBOUNCE = 100000000 the largest rate is 1; a result of 2^31 there does not fit s32. -/
theorem test_check2_result_too_large :
    ¬ check2 { cfgDataWith tcParameters with
      debounce := 100000000#32, cal.seg0 := ⟨0, 1, 2147483648, 1, 0, 1⟩ } := by decide

/-- An intermediate of 2^63 does not fit, though the quotient would. -/
theorem test_check2_intermediate_too_large :
    ¬ check2 { cfgDataWith tcParameters with
      debounce := 100000000#32, cal.seg2 := ⟨9223372036854775808, 9223372036854775808, 0, 1, 0, 1⟩ } := by
  decide

theorem test_check3_offset_360 : ¬ check3 { cfgDataWith tcParameters with dirOffset := 360#9 } := by decide

theorem test_check4_gain_zero_or_above_one :
    ¬ check4 { cfgDataWith tcParameters with gainQ8 := 0#9 } ∧
      ¬ check4 { cfgDataWith tcParameters with gainQ8 := 257#9 } := by decide

theorem test_check5_bands_not_rising :
    ¬ check5 { cfgDataWith tcParameters with bandLimit1 := 1000#32 } := by decide

theorem test_check6_limit_zero :
    ¬ check6 { cfgDataWith tcParameters with spdLim.band2 := 0#32 } := by decide

theorem test_check7_limit_above_half_turn :
    ¬ check7 { cfgDataWith tcParameters with dirLim.band0 := 181#8 } := by decide

theorem test_check8_diag_mode : ¬ check8 { cfgDataWith tcParameters with diagMode := true } := by decide

/-! ### Well-formedness: an ill-formed term for each part of the check -/

/-- OPC = 111 is the other class (30_encoding R73). -/
theorem test_wf_refuses_opc7 : (Instr.reservedBits 1#4 .lo 7#3).wf = false := by decide

/-- RSV = 0 and LVL = 0 is the word of an operation. -/
theorem test_wf_refuses_operation_fields : (Instr.reservedBits 0#4 .lo 3#3).wf = false := by decide

/-- LVL = 1 is legal on SPD_EDGE and on DIR_EDGE. -/
theorem test_wf_refuses_high_edges :
    (Instr.reservedBits 0#4 .hi 1#3).wf = false ∧ (Instr.reservedBits 0#4 .hi 2#3).wf = false := by decide

/-! ### Decoding: words written out from 30_encoding R70, R72, R78 and from L2-1 -/

theorem test_decode_nop : decodeTableWord 8 0b00000000 = some .nop := by decide
theorem test_decode_spd_edge :
    decodeTableWord 8 0b00000001 = some (.spdEdge .lo) ∧ decodeTableWord 8 0b00001001 = some (.spdEdge .hi) := by
  decide
theorem test_decode_dir_edge :
    decodeTableWord 8 0b00000010 = some (.dirEdge .lo) ∧ decodeTableWord 8 0b00001010 = some (.dirEdge .hi) := by
  decide
theorem test_decode_snapshot : decodeTableWord 8 0b00000011 = some .snapshot := by decide
theorem test_decode_condition : decodeTableWord 8 0b00000100 = some .condition := by decide
theorem test_decode_emit : decodeTableWord 8 0b00000101 = some .emit := by decide
theorem test_decode_cycle : decodeTableWord 8 0b00000110 = some .cycle := by decide
theorem test_decode_reserved_op :
    decode 0x07#8 = .reservedOp 0#4 .lo ∧ decode 0x0F#8 = .reservedOp 0#4 .hi ∧
      decode 0xFF#8 = .reservedOp 15#4 .hi ∧ decode 0x17#8 = .reservedOp 1#4 .lo := by decide
theorem test_decode_reserved_bits :
    decode 0x08#8 = .reservedBits 0#4 .hi 0#3 ∧ decode 0x0E#8 = .reservedBits 0#4 .hi 6#3 ∧
      decode 0x10#8 = .reservedBits 1#4 .lo 0#3 ∧ decode 0x11#8 = .reservedBits 1#4 .lo 1#3 ∧
      decode 0x81#8 = .reservedBits 8#4 .lo 1#3 ∧ decode 0xF6#8 = .reservedBits 15#4 .lo 6#3 := by decide

/-- A word is eight bits (30_encoding R75). -/
theorem test_decode_refuses_wider : decodeTableWord 16 0 = none ∧ decodeTableWord 8 256 = none := by decide

/-- Fewer than eight bits: the bits above are 0, and a number that does not fit has no instruction (log entry
15). -/
theorem test_decode_narrow :
    decodeTableWord 3 5 = some .emit ∧ placedWord 3 5 = 0x05#8 ∧ decodeTableWord 4 0x13 = none := by decide

/-! ### Assembler lines (30_encoding R76, R77) -/

theorem test_line_level_suffix :
    parseLine "200000: SPD_EDGE HI ; late".toList = .ok (some ⟨200000#32, .spdEdge .hi⟩) ∧
      parseLine "150000: DIR_EDGE".toList = .ok (some ⟨150000#32, .dirEdge .lo⟩) := by decide

theorem test_line_pseudo_operations :
    parseLine "0: SPD".toList = .ok (some ⟨0#32, .spdEdge .lo⟩) ∧
      parseLine "4294967295: DIR".toList = .ok (some ⟨4294967295#32, .dirEdge .lo⟩) ∧
      parseLine "4294967296: DIR".toList = .error .timeOutOfRange := by decide

/-! ### SPD_EDGE and DIR_EDGE (L2-2, L2-3) -/

/-- Capture registers in the order of the vectors: SPD_TS, DIR_TS, DIR_INT, and the time of the edge. -/
def capture (spdTs dirTs dirInt now : Word) : State :=
  { base with spdTs := spdTs, dirTs := dirTs, dirInt := dirInt, nowPort := now }

/-- L2-2 rows 1, 4, 5, 6 and 10. -/
theorem test_spd_edge_accepted :
    after (fun t => (t.spdInt, t.dirInt, t.newData, t.spdTs)) (.spdEdge .lo)
        (capture 100000#32 150000#32 0#32 200000#32) = some (100000#32, 50000#32, true, 200000#32) ∧
      after (fun t => t.spdInt) (.spdEdge .lo) (capture 100000#32 150000#32 0#32 110000#32) = some 10000#32 ∧
      after (fun t => t.dirInt) (.spdEdge .lo) (capture 100000#32 100000#32 7#32 200000#32) = some 0#32 ∧
      after (fun t => t.dirInt) (.spdEdge .lo) (capture 100000#32 99999#32 7#32 200000#32) = some 7#32 ∧
      after (fun t => (t.spdInt, t.dirInt)) (.spdEdge .lo)
        (capture 4294960000#32 4294965000#32 0#32 2704#32) = some (10000#32, 5000#32) := by decide

/-- L2-2 rows 2, 3 and 7: nothing changes. -/
theorem test_spd_edge_ignored :
    after State.captureRegs (.spdEdge .hi) (capture 100000#32 150000#32 0#32 200000#32) =
        some (100000#32, 150000#32, 0#32, 0#32, false) ∧
      after State.captureRegs (.spdEdge .lo) (capture 100000#32 150000#32 0#32 109999#32) =
        some (100000#32, 150000#32, 0#32, 0#32, false) ∧
      after State.captureRegs (.spdEdge .lo) (capture 0#32 0#32 0#32 9999#32) =
        some (0#32, 0#32, 0#32, 0#32, false) :=
  ⟨by decide, by decide, by decide⟩

/-- L2-3 rows 2, 5 and 6. -/
theorem test_dir_edge_accepted :
    after State.captureRegs (.dirEdge .lo) (capture 0#32 0#32 7#32 150000#32) =
        some (0#32, 150000#32, 0#32, 7#32, false) ∧
      after (fun t => t.dirTs) (.dirEdge .lo) (capture 0#32 150000#32 0#32 160000#32) = some 160000#32 ∧
      after (fun t => t.dirTs) (.dirEdge .lo) (capture 0#32 4294967000#32 0#32 9704#32) = some 9704#32 := by decide

/-- L2-3 rows 1, 3 and 4. -/
theorem test_dir_edge_ignored :
    after (fun t => t.dirTs) (.dirEdge .lo) (capture 0#32 0#32 0#32 5000#32) = some 0#32 ∧
      after (fun t => t.dirTs) (.dirEdge .hi) (capture 0#32 150000#32 0#32 200000#32) = some 150000#32 ∧
      after (fun t => t.dirTs) (.dirEdge .lo) (capture 0#32 150000#32 0#32 159999#32) = some 150000#32 := by decide

/-! ### SNAPSHOT (L2-4) -/

/-- The capture registers of L2-4, with SPD_TS and the time of the snapshot given. -/
def captured (spdTs now : Word) : State :=
  { base with
    spdTs := spdTs, dirTs := 150000#32, spdInt := 100000#32, dirInt := 50000#32, newData := true, nowPort := now }

/-- L2-4 row 1. -/
theorem test_snapshot_copies :
    after (fun t => (t.snapshotRegs, t.stall, t.newData)) .snapshot (captured 200000#32 250000#32) =
      some ((200000#32, 150000#32, 100000#32, 50000#32), false, false) := by decide

/-- L2-4 rows 2, 3, 5 and 6: the timeout is strict, also across the wrap. -/
theorem test_snapshot_timeout_is_strict :
    after (fun t => (t.sSpdInt, t.stall)) .snapshot (captured 200000#32 1700000#32) = some (100000#32, false) ∧
      after (fun t => (t.sSpdInt, t.stall)) .snapshot (captured 200000#32 1700001#32) = some (0#32, true) ∧
      after (fun t => (t.sSpdInt, t.stall)) .snapshot (captured 4294000000#32 532704#32) =
        some (100000#32, false) ∧
      after (fun t => (t.sSpdInt, t.stall)) .snapshot (captured 4294000000#32 532705#32) =
        some (0#32, true) := by decide

/-! ### CAL (L2-5), at the ends of the three segments -/

theorem test_cal_segment_ends :
    cal tc.data 10000#32 = 93499 ∧ cal tc.data 18395#32 = 34872 ∧ cal tc.data 18396#32 = 34860 ∧
      cal tc.data 309597#32 = 313 ∧ cal tc.data 309598#32 = 312 ∧ cal tc.data 11111112#32 = 0 ∧
      cal tc.data 4294967295#32 = 0 ∧ cal tc.data 0#32 = 0 := by decide

/-! ### CONDITION (L2-10) -/

/-- Snapshot and filter registers in the order of the columns of L2-10. -/
def conditioning (sSpdInt sDirInt prevSpeed curSpeed : Word) (prevDir smoothDir : Degrees) : State :=
  { base with
    sSpdInt := sSpdInt, sDirInt := sDirInt, prevSpeed := prevSpeed, curSpeed := curSpeed, prevDir := prevDir,
    smoothDir := smoothDir }

/-- L2-10 rows 1 to 4 and 7: stalled, rejected at the limit, accepted below it, inconsistent phase. -/
theorem test_condition_speed :
    after (fun t => (t.filterRegs, t.speedRej, t.dirStat)) .condition
        (conditioning 0#32 0#32 2000#32 2000#32 100#9 100#9) =
        some ((0#32, 100#9, 100#9, 0#32), false, .skipped) ∧
      after (fun t => (t.filterRegs, t.speedRej, t.dirStat)) .condition
        (conditioning 100000#32 50000#32 886#32 500#32 180#9 0#9) =
        some ((1886#32, 180#9, 0#9, 500#32), true, .notReached) ∧
      after (fun t => (t.filterRegs, t.speedRej, t.dirStat)) .condition
        (conditioning 100000#32 50000#32 887#32 500#32 180#9 0#9) =
        some ((1886#32, 180#9, 45#9, 1886#32), false, .accepted) ∧
      after (fun t => (t.filterRegs, t.speedRej, t.dirStat)) .condition
        (conditioning 100000#32 100001#32 1886#32 1886#32 100#9 170#9) =
        some ((1886#32, 100#9, 170#9, 1886#32), false, .skipped) :=
  ⟨by decide, by decide, by decide, by decide⟩

/-- L2-10 rows 9 to 13, and row 9 under ON_ACCEPT. -/
theorem test_condition_direction :
    after (fun t => (t.prevDir, t.smoothDir, t.dirStat)) .condition
        (conditioning 100000#32 50000#32 1886#32 1886#32 100#9 90#9) = some (180#9, 90#9, .rejected) ∧
      after (fun t => (t.prevDir, t.smoothDir, t.dirStat)) .condition
        { conditioning 100000#32 50000#32 1886#32 1886#32 100#9 90#9 with cfg := tcOnAccept } =
        some (100#9, 90#9, .rejected) ∧
      after (fun t => (t.prevDir, t.smoothDir, t.dirStat)) .condition
        (conditioning 100000#32 97222#32 1886#32 1886#32 5#9 5#9) = some (349#9, 1#9, .accepted) ∧
      after (fun t => (t.prevDir, t.smoothDir, t.dirStat)) .condition
        (conditioning 10000#32 139#32 93499#32 93499#32 355#9 355#9) = some (5#9, 355#9, .rejected) ∧
      after (fun t => (t.prevDir, t.smoothDir, t.dirStat)) .condition
        (conditioning 10000#32 139#32 93499#32 93499#32 356#9 356#9) = some (5#9, 358#9, .accepted) := by decide

/-- L2-9: the half turns, the wraps and the ties. -/
theorem test_smooth :
    smooth 64 10 350 = 5 ∧ smooth 64 0 180 = 45 ∧ smooth 64 180 0 = 135 ∧ smooth 64 358 5 = 0 ∧
      smooth 64 0 181 = 315 ∧ smooth 128 0 3 = 2 ∧ smooth 128 0 1 = 1 ∧ smooth 256 10 350 = 350 := by decide

/-! ### EMIT and CYCLE (L2-11, L2-12) -/

/-- L2-11: the shortest sentence of the table and the longest, and LAST_EMIT. -/
theorem test_emit :
    after (fun t => (t.out, t.lastEmit)) .emit { base with nowPort := 10#32 } =
        some (asciiBytes "$WIMWV,0.0,R,0.0,N,A*23".toList, 10#32) ∧
      after (fun t => t.out) .emit { base with smoothDir := 359#9, curSpeed := 2147483647#32 } =
        some (asciiBytes "$WIMWV,359.0,R,21474836.4,N,A*11".toList) := by decide

/-- L2-11: the example of L1-1 with its checksum. -/
theorem test_emit_example :
    after (fun t => t.out) .emit { base with smoothDir := 123#9, curSpeed := 1530#32 } =
      some (asciiBytes "$WIMWV,123.0,R,15.3,N,A*14".toList) := by decide

/-- L2-12: the rate limit includes its bound, also across the wrap. -/
theorem test_cycle_rate_limit :
    after (fun t => (t.lastEmit, t.out.length)) .cycle { base with nowPort := 499999#32 } = some (0#32, 0) ∧
      after (fun t => (t.lastEmit, t.out.length)) .cycle { base with nowPort := 500000#32 } =
        some (500000#32, 23) ∧
      after (fun t => t.lastEmit) .cycle { base with lastEmit := 4294967000#32, nowPort := 499704#32 } =
        some 499704#32 := by decide

/-- L1-7, its first snapshot and pass as one CYCLE: 1886 and 45 degrees. -/
theorem test_cycle_passes_data_on :
    after (fun t => (t.sSpdInt, t.curSpeed, t.prevDir, t.smoothDir, t.dirStat)) .cycle
        { captured 200000#32 250000#32 with prevSpeed := 1886#32, curSpeed := 1886#32, prevDir := 180#9 } =
      some (100000#32, 1886#32, 180#9, 45#9, .accepted) := by decide

/-! ### NOP, the fault and the ports (L2-13, P4) -/

/-- Word 0x07 from reset: STATUS = 0x20 and the first reason; then 0x08 replaces the reason. -/
theorem test_reserved_words :
    after (fun t => (t.status, t.faultReason)) (decode 0x07#8) base = some (0x20#8, .reservedOp) ∧
      after (fun t => (t.fault, t.faultReason)) (decode 0x08#8)
        { base with fault := true, faultReason := .reservedOp } = some (true, .reservedBits) := by decide

/-- P4's end state shows STATUS = 0x3C. -/
theorem test_status :
    State.status { base with stall := true, dirStat := .skipped, fault := true } = 0x3C#8 := by decide

theorem test_nop_status : after State.status .nop { base with newData := true } = some 0x01#8 := by decide

/-! ### Witnesses: each obligation's hypotheses, met together -/

/-- A configuration whose three polynomials are the rate itself. -/
def linearParameters : OpenParameters :=
  { tcParameters with cal := ⟨⟨0, 1, 1, 1, 0, 1⟩, ⟨0, 1, 1, 1, 0, 1⟩, ⟨0, 1, 1, 1, 0, 1⟩⟩ }

/-- The state with one presentation still to come. -/
def presenting (word : Byte) (now : Word) : State := { base with inputs := [.op word now] }

theorem witness_DecodeOfEncodeIsTheInstruction :
    (Instr.spdEdge .hi).wf = true ∧ (Instr.reservedOp 15#4 .hi).wf = true ∧
      (Instr.reservedBits 0#4 .hi 0#3).wf = true ∧ (Instr.reservedBits 1#4 .lo 0#3).wf = true := by decide

/-- One word for each clause. -/
theorem witness_ReservedWordsDecodeByTheirReason :
    (0x07#8).toNat % 8 = 7 ∧ ((0x10#8).toNat % 8 ≠ 7 ∧ 16 ≤ (0x10#8).toNat) ∧
      ((0x08#8).toNat % 8 ≠ 7 ∧ (0x08#8).toNat % 8 ≠ 1 ∧ (0x08#8).toNat % 8 ≠ 2 ∧
        (0x08#8).toNat / 8 % 2 = 1) := by decide

theorem witness_StepRunsThePresentedOperation :
    Instr.cycle.wf = true ∧ (presenting 0x06#8 250000#32).inputs = .op (encode .cycle) 250000#32 :: [] := by decide

theorem witness_NothingPresentedChangesNothing : base.inputs = [] := rfl

theorem witness_ResetSetsEveryRegister :
    State.inputs { base with curSpeed := 1886#32, inputs := [.rst] } = .rst :: [] := rfl

theorem witness_NoStepWritesTheConfiguration :
    ∃ t, step { base with inputs := [.rst] } = .next t ∧ step (presenting 0x01#8 10000#32) = .next
      { base with spdInt := 10000#32, newData := true, spdTs := 10000#32, nowPort := 10000#32 } :=
  ⟨_, rfl, rfl⟩

/-- TC passes, and TC with DIR_OFFSET = 360 does not. -/
theorem witness_BootRefusesExactlyTheFailingConfigurations :
    Spec.passesChecks (cfgDataWith tcParameters) ∧
      ¬ Spec.passesChecks { cfgDataWith tcParameters with dirOffset := 360#9 } := by
  refine ⟨⟨by decide, ?_, by decide, by decide, by decide, ?_, by decide, rfl⟩, ?_⟩
  · intro k hk r hr
    obtain ⟨h0, h1, h2⟩ := test_tc_valid.2.2.2.2.2.2.2 r hr
    simp only [List.mem_cons, List.not_mem_nil, or_false] at hk
    rcases hk with rfl | rfl | rfl
    exacts [⟨h0.1, h0.2⟩, ⟨h1.1, h1.2⟩, ⟨h2.1, h2.2⟩]
  · simp only [List.mem_cons, List.not_mem_nil, or_false, forall_eq_or_imp, forall_eq]
    decide
  · exact fun h => absurd h.2.2.1 (by decide)

theorem test_base_inv : base.Inv := by
  constructor <;> first | exact .inl rfl | decide

theorem witness_EveryStepKeepsTheInvariant : base.Inv ∧ ∃ t, step base = .next t := ⟨test_base_inv, _, rfl⟩

/-- A conjunct for each clause: CONDITION, and SNAPSHOT. -/
theorem witness_CaptureRegistersHaveFewWriters :
    (∃ t, exec .condition base = .next t) ∧ (∃ t, exec .snapshot (captured 200000#32 250000#32) = .next t) ∧
      (∀ lvl, Instr.snapshot ≠ .spdEdge lvl) ∧ (∀ lvl, Instr.snapshot ≠ .dirEdge lvl) :=
  ⟨⟨_, rfl⟩, ⟨_, rfl⟩, nofun, nofun⟩

theorem witness_EdgesWriteOnlyCaptureRegisters :
    Instr.dirEdge .lo = .spdEdge .lo ∨ Instr.dirEdge .lo = .dirEdge .lo := by decide

/-- Last edges at 100000, both edges at 110000 (exactly DEBOUNCE later), the next speed edge at 120000. -/
theorem witness_SimultaneousEdgesInBothOrders :
    let s := capture 100000#32 100000#32 0#32 0#32
    s.spdTs.toNat ≤ (110000#32).toNat ∧
      (s.cfg.data.debounce.toNat : Int) ≤ Spec.elapsedTime 110000#32 s.spdTs ∧
      (s.cfg.data.debounce.toNat : Int) ≤ Spec.elapsedTime 110000#32 s.dirTs ∧
      (s.cfg.data.debounce.toNat : Int) ≤ Spec.elapsedTime 120000#32 110000#32 := by decide

/-- Snapshots at TIMEOUT and one microsecond later: the last clause's premises. -/
theorem witness_RepeatedSnapshotIsIdempotent :
    ∃ s1 s2, exec .snapshot (captured 200000#32 1700000#32) = .next s1 ∧
      exec .snapshot { s1 with nowPort := 1700001#32 } = .next s2 ∧
      Spec.elapsedTime 1700000#32 s1.sSpdTs ≤ 1500000 ∧ (1500000 : Int) < Spec.elapsedTime 1700001#32 s1.sSpdTs :=
  ⟨_, _, rfl, rfl, by decide, by decide⟩

/-- Snapshots at 250000 and at TIMEOUT: the other clause's premise. -/
theorem witness_RepeatedSnapshotIsIdempotent_same_answer :
    ∃ s1, exec .snapshot (captured 200000#32 250000#32) = .next s1 ∧
      ((1500000 : Int) < Spec.elapsedTime 250000#32 s1.sSpdTs ↔
        (1500000 : Int) < Spec.elapsedTime 1700000#32 s1.sSpdTs) :=
  ⟨_, rfl, by decide⟩

/-- An interval at each end of each segment; `test_cal_segment_ends` has their speeds. -/
theorem witness_CalibratorSelectsTheSegmentByInterval :
    (18395#32).toNat ≤ 18395 ∧ ¬ (18396#32).toNat ≤ 18395 ∧ (309597#32).toNat ≤ 309597 ∧
      ¬ (309598#32).toNat ≤ 309597 ∧ (18395#32 : Word) ≠ 0#32 ∧ (309598#32 : Word) ≠ 0#32 := by decide

/-- A monotone calibration, and a pair of intervals for each of the three cases at its ends. -/
theorem witness_MonotoneCalibrationOrdersIntervals :
    CalMonotone (cfgDataWith linearParameters) ∧
      (cfgDataWith linearParameters).debounce.toNat ≤ (10000#32).toNat ∧
      ((10000#32).toNat ≤ (18395#32).toNat ∧ (18395#32).toNat ≤ 18395) ∧
      ((18396#32).toNat ≤ (309597#32).toNat ∧ 18395 < (18396#32).toNat ∧ (309597#32).toNat ≤ 309597) ∧
      ((309598#32).toNat ≤ (4294967295#32).toNat ∧ 309597 < (309598#32).toNat) := by
  refine ⟨?_, by decide, by decide, by decide, by decide⟩
  intro r1 r2 h _ _
  have hc : ∀ k, coeffsOf (cfgDataWith linearParameters).cal k = ⟨0, 1, 1, 1, 0, 1⟩ := by
    intro k; cases k <;> rfl
  simp only [hc, poly, quadraticTerm, linearTerm, zero_mul, one_mul, Int.tdiv_one, zero_add, add_zero]
  omega

/-- The two kinds of interval: zero, and DEBOUNCE itself. -/
theorem witness_ConditionResult :
    intervalOk tc.data (conditioning 0#32 0#32 2000#32 2000#32 100#9 100#9).sSpdInt ∧
      intervalOk tc.data (conditioning 10000#32 139#32 93499#32 93499#32 355#9 355#9).sSpdInt :=
  ⟨.inl rfl, .inr (by decide)⟩

theorem witness_StalledConditionReportsZeroSpeed :
    (conditioning 0#32 0#32 2000#32 2000#32 100#9 100#9).sSpdInt = 0#32 := rfl

/-- L2-10 row 2. -/
theorem witness_RejectedSpeedIsAcceptedWhenRepeated :
    let s := conditioning 100000#32 50000#32 0#32 0#32 0#9 0#9
    intervalOk s.cfg.data s.sSpdInt ∧ ∃ t, exec .condition s = .next t ∧ t.speedRej = true :=
  ⟨.inr (by decide), _, rfl, by decide⟩

/-- L2-10 row 9. -/
theorem witness_RejectedDirectionIsConfirmedOnCompute :
    let s := conditioning 100000#32 50000#32 1886#32 1886#32 100#9 90#9
    intervalOk s.cfg.data s.sSpdInt ∧ s.cfg.data.prevDirPolicy = .onCompute ∧
      ∃ t, exec .condition s = .next t ∧ t.dirStat = .rejected :=
  ⟨.inr (by decide), rfl, _, rfl, by decide⟩

/-- L2-10 row 9 under ON_ACCEPT. -/
theorem witness_RejectedDirectionStaysLockedOnAccept :
    let s : State := { conditioning 100000#32 50000#32 1886#32 1886#32 100#9 90#9 with cfg := tcOnAccept }
    intervalOk s.cfg.data s.sSpdInt ∧ s.cfg.data.prevDirPolicy = .onAccept ∧
      ∃ t, exec .condition s = .next t ∧ t.dirStat = .rejected :=
  ⟨.inr (by decide), rfl, _, rfl, by decide⟩

/-- L2-10 row 4. -/
theorem witness_SecondConditionOnlySmoothsAgain :
    let s := conditioning 100000#32 50000#32 887#32 500#32 180#9 0#9
    intervalOk s.cfg.data s.sSpdInt ∧ ∃ t, exec .condition s = .next t ∧ t.dirStat = .accepted :=
  ⟨.inr (by decide), _, rfl, by decide⟩

theorem witness_ConditionReadsOnlyTheSnapshot :
    ∃ t, exec .condition (conditioning 100000#32 50000#32 887#32 500#32 180#9 0#9) = .next t := ⟨_, rfl⟩

theorem witness_FilterRegistersChangeOnlyInConditioning :
    (∃ t, exec .emit base = .next t) ∧ Instr.emit ≠ .condition ∧ Instr.emit ≠ .cycle :=
  ⟨⟨_, rfl⟩, by decide, by decide⟩

/-- L2-10 row 9, and a stalled CYCLE from reset. -/
theorem witness_SmoothedDirectionMovesOnlyWhenAccepted :
    (∃ t, exec .condition (conditioning 100000#32 50000#32 1886#32 1886#32 100#9 90#9) = .next t ∧
      t.dirStat ≠ .accepted) ∧ (∃ t, exec .cycle base = .next t ∧ t.dirStat ≠ .accepted) :=
  ⟨⟨_, rfl, by decide⟩, ⟨_, rfl, by decide⟩⟩

/-- The direction interval equal to the speed interval, one less, and zero under the longest speed interval. -/
theorem witness_RawDirectionIsInRange :
    (100000#32 : Word) ≠ 0#32 ∧ (100000#32).toNat ≤ (100000#32).toNat ∧ (99999#32).toNat ≤ (100000#32).toNat ∧
      (4294967295#32 : Word) ≠ 0#32 ∧ (0#32).toNat ≤ (4294967295#32).toNat ∧
      dirRaw (conditioning 100000#32 100000#32 0#32 0#32 0#9 0#9) = 0 ∧
      dirRaw (conditioning 100000#32 99999#32 0#32 0#32 0#9 0#9) = 359 ∧
      dirRaw (conditioning 4294967295#32 0#32 0#32 0#32 0#9 0#9) = 0 := by decide

/-- The ends of the range of directions; the half turns are in `test_smooth`. -/
theorem witness_ShortestDeltaIsWithinHalfATurn :
    ((0 : Int) ≤ 359 ∧ (359 : Int) ≤ 359) ∧ shortestDelta 359 0 = -1 ∧ shortestDelta 0 359 = 1 ∧
      shortestDelta 180 0 = 180 ∧ shortestDelta 0 180 = -180 := by decide

/-- The ends of the range of gains and directions. -/
theorem witness_SmootherIsTheModularStep :
    (1 ≤ 256 ∧ (0 : Int) ≤ 359) ∧ smooth 1 0 180 = 1 ∧ smooth 256 0 359 = 359 ∧ smooth 256 359 0 = 0 := by decide

theorem witness_FullGainDisablesFiltering :
    ((0 : Int) ≤ 10 ∧ (10 : Int) ≤ 359 ∧ (0 : Int) ≤ 350 ∧ (350 : Int) ≤ 359) ∧ smooth 256 10 350 = 350 := by decide

theorem witness_GainStepRoundsHalfAwayFromZero :
    (256 ≤ 256 ∧ (-180 : Int).natAbs ≤ 180) ∧ gainRound 256 (-180) = -180 ∧ gainRound 128 (-1) = -1 := by decide

theorem witness_EmitResult :
    0 ≤ base.curSpeed.toInt ∧ 0 ≤ (State.curSpeed { base with curSpeed := 2147483647#32 }).toInt := by decide

/-- Both bounds are met: 23 bytes and 32 bytes. -/
theorem witness_SentenceLengthBounds :
    (359 ≤ 359 ∧ 2147483647 ≤ 2147483647) ∧ (sentence 0 0).length = 23 ∧
      (sentence 359 2147483647).length = 32 := by decide

theorem witness_OutputOnlyGrows :
    (∃ t, exec .emit base = .next t) ∧ (∃ t, exec .snapshot base = .next t) ∧ Instr.snapshot ≠ .emit ∧
      Instr.snapshot ≠ .cycle :=
  ⟨⟨_, rfl⟩, ⟨_, rfl⟩, by decide, by decide⟩

/-- EMIT_PERIOD microseconds after the last emission, and one less: one time for each clause. -/
theorem witness_CycleAtomicityLosesNoBehaviour :
    (base.cfg.data.emitPeriod.toNat : Int) ≤ Spec.elapsedTime 500000#32 base.lastEmit ∧
      Spec.elapsedTime 499999#32 base.lastEmit < base.cfg.data.emitPeriod.toNat := by decide

/-- One microsecond past TIMEOUT. -/
theorem witness_TimedOutCycleReportsTheStall :
    ((captured 200000#32 1700001#32).cfg.data.timeout.toNat : Int) <
      Spec.elapsedTime 1700001#32 (captured 200000#32 1700001#32).spdTs := by decide

/-- A word of each reason. -/
theorem witness_IllFormedWordsRaiseTheFault :
    (presenting 0x07#8 20#32).inputs = .op 0x07#8 20#32 :: [] ∧
      (presenting 0x13#8 30#32).inputs = .op 0x13#8 30#32 :: [] ∧
      0x07#8 ∉ [0x00#8, 0x01#8, 0x09#8, 0x02#8, 0x0A#8, 0x03#8, 0x04#8, 0x05#8, 0x06#8] ∧
      0x13#8 ∉ [0x00#8, 0x01#8, 0x09#8, 0x02#8, 0x0A#8, 0x03#8, 0x04#8, 0x05#8, 0x06#8] := by decide

/-- A faulted state that runs on, and one that is reset. -/
theorem witness_FaultIsStickyUntilReset :
    (∃ t, step { presenting 0x06#8 60#32 with fault := true } = .next t) ∧
      (∃ t, step { base with fault := true, inputs := [.rst] } = .next t) ∧
      Spec.isOperation .emit = true ∧ (∃ t, exec .emit base = .next t) :=
  ⟨⟨_, rfl⟩, ⟨_, rfl⟩, rfl, ⟨_, rfl⟩⟩

/-! ### Placing an instruction, and the boot order -/

/-- The very next step takes the placed word. -/
theorem test_with_fetch_word :
    step (base.withFetchWord 8 0x07) = .next { base with fault := true, faultReason := .reservedOp } := rfl

/-- TC boots; with DIAG_MODE = true there is no machine (10_state R42; 70_reset_and_hazards R252). -/
theorem test_boot :
    (∃ c : Cfg, boot (cfgDataWith tcParameters) [] = .next { State.reset with cfg := c }) ∧
      boot { cfgDataWith tcParameters with diagMode := true } [] = .refused .configurationRefused :=
  ⟨⟨tc, dif_pos test_tc_valid⟩, dif_neg (fun h => absurd h.2.2.2.2.2.2.1 (by decide))⟩

end Sys2Proof.Tests
end

section
/-! The proofs of the state family (10_state): the invariant, and which operation writes which registers. -/

namespace Sys2Proof.Machine

/-! ### What keeps the invariant: the writes of Machine/Ops.lean -/

namespace State.Inv

variable {s : State}

theorem presentOp (hs : s.Inv) (now : Word) (rest : List HostInput) : (s.presentOp now rest).Inv := { hs with }

/-- Reset meets the invariant from every state and under every configuration (70_reset_and_hazards R250). -/
theorem assertReset (s : State) (rest : List HostInput) : (s.assertReset rest).Inv where
  spdInt := .inl rfl
  sSpdInt := .inl rfl
  prevSpeed := by simp
  curSpeed := by simp
  prevDir := by simp
  smoothDir := by simp
  stall := by simp
  speedRej := by simp
  fault := by simp
  out := by simp

theorem captureSpeed (hs : s.Inv) {speedInterval : Word} (hi : intervalOk s.cfg.data speedInterval)
    (dirInterval now : Word) : (s.captureSpeed speedInterval dirInterval now).Inv :=
  { hs with spdInt := hi }

theorem captureDir (hs : s.Inv) (now : Word) : (s.captureDir now).Inv := { hs with }

/-- The copies alone may leave STALL behind: they keep the invariant together with the write of S_SPD_INT. -/
theorem copyCapture_setSnapshotInterval (hs : s.Inv) {v : Word} (hv : intervalOk s.cfg.data v) :
    (s.copyCapture.setSnapshotInterval v).Inv :=
  { hs with sSpdInt := hv, stall := of_decide_eq_true }

theorem setPrevSpeed (hs : s.Inv) {v : Word} (hv : 0 ≤ speedValue v) : (s.setPrevSpeed v).Inv :=
  { hs with prevSpeed := hv }

theorem acceptSpeed (hs : s.Inv) {v : Word} (hv : 0 ≤ speedValue v) : (s.acceptSpeed v).Inv :=
  { hs with curSpeed := hv, speedRej := nofun }

theorem rejectSpeed (hs : s.Inv) : s.rejectSpeed.Inv :=
  { hs with speedRej := fun _ => rfl }

theorem setDirStat (hs : s.Inv) (hr : s.speedRej = false) (d : DirStat) : (s.setDirStat d).Inv :=
  { hs with speedRej := fun h => absurd (hr.symm.trans h) Bool.false_ne_true }

theorem setPrevDir (hs : s.Inv) {d : Degrees} (hd : d.toNat < 360) : (s.setPrevDir d).Inv :=
  { hs with prevDir := hd }

theorem setSmoothDir (hs : s.Inv) {d : Degrees} (hd : d.toNat < 360) : (s.setSmoothDir d).Inv :=
  { hs with smoothDir := hd }

theorem emitBytes (hs : s.Inv) {bytes : List Byte} (hb : ∀ b ∈ bytes, b.toNat < 128) : (s.emitBytes bytes).Inv :=
  { hs with out := List.forall_mem_append.mpr ⟨hs.out, hb⟩ }

theorem setLastEmit (hs : s.Inv) (now : Word) : (s.setLastEmit now).Inv := { hs with }

theorem raiseFault (hs : s.Inv) {reason : FaultReason} (hr : reason ≠ .none) : (s.raiseFault reason).Inv :=
  { hs with fault := iff_of_true rfl hr }

end State.Inv

/-! ### What keeps the invariant: the operations -/

/-- A direction in [0, 359] written to its register is one there. -/
theorem degreesWord_toNat_lt {v : Int} (h : 0 ≤ v ∧ v < 360) : (degreesWord v).toNat < 360 := by
  have := degreesWord_toNat h
  omega

/-- R42 check 4 bounds the gain by one. -/
theorem gainQ8_le (c : Cfg) : c.data.gainQ8.toNat ≤ 256 := by
  obtain ⟨-, -, ⟨-, hg⟩, -⟩ := c.valid
  exact hg

/-- The speed of an interval that is zero or at least DEBOUNCE reads back from its register as it was computed, so
it is not negative there (10_state R42 check 2; 42_calibration R133). -/
theorem speedWord_cal_nonneg (c : Cfg) {sI : Word} (h : intervalOk c.data sI) :
    0 ≤ speedValue (speedWord (cal c.data sI)) := by
  rw [speedValue, speedWord_toInt (cal_fitsS32 c.valid h)]
  exact cal_nonneg _ _

theorem State.Inv.speedEdge {s : State} (hs : s.Inv) (lvl : Level) : (speedEdge lvl s).Inv := by
  obtain ⟨-, h⟩ | ⟨⟨-, hd⟩, h⟩ := speedEdge_cases lvl s <;> rw [h]
  · exact hs
  · exact hs.captureSpeed (.inr hd) _ _

theorem State.Inv.dirEdge {s : State} (hs : s.Inv) (lvl : Level) : (dirEdge lvl s).Inv := by
  obtain ⟨-, h⟩ | ⟨-, h⟩ := dirEdge_cases lvl s <;> rw [h]
  · exact hs
  · exact hs.captureDir _

theorem State.Inv.takeSnapshot {s : State} (hs : s.Inv) : (takeSnapshot s).Inv := by
  rw [takeSnapshot_eq]
  split
  · exact hs.copyCapture_setSnapshotInterval (.inl rfl)
  · exact hs.copyCapture_setSnapshotInterval hs.spdInt

theorem State.Inv.conditionPass {s : State} (hs : s.Inv) : (conditionPass s).Inv := by
  have hv := speedWord_cal_nonneg s.cfg hs.sSpdInt
  have hraw := dirRaw_range s
  have hsmooth := smooth_range (gainQ8_le s.cfg) hraw ⟨Int.natCast_nonneg _, Int.ofNat_lt.mpr s.smoothDir.isLt⟩
  have hprev := hs.setPrevSpeed hv
  have hacc : (speedAcceptedState s (cal s.cfg.data s.sSpdInt)).Inv := hprev.acceptSpeed hv
  have hdir := hacc.setPrevDir (degreesWord_toNat_lt hraw)
  obtain h | ⟨-, h⟩ | h | h | h := conditionPass_cases s <;> rw [h]
  · exact hprev.rejectSpeed
  · exact hacc.setDirStat rfl _
  · exact (hdir.setSmoothDir (degreesWord_toNat_lt hsmooth)).setDirStat rfl _
  · exact hdir.setDirStat rfl _
  · exact hacc.setDirStat rfl _

theorem State.Inv.emitSentence {s : State} (hs : s.Inv) : (emitSentence s).Inv :=
  (hs.emitBytes (sentence_ascii (Int.natCast_nonneg _) hs.curSpeed)).setLastEmit _

theorem State.Inv.cyclePass {s : State} (hs : s.Inv) : (cyclePass s).Inv := by
  obtain h | h := cyclePass_cases s <;> rw [h]
  · exact hs.takeSnapshot.conditionPass
  · exact hs.takeSnapshot.conditionPass.emitSentence

/-- Every operation keeps the invariant. -/
theorem State.Inv.effect {s : State} (hs : s.Inv) (i : Instr) : (effect i s).Inv := by
  cases i with
  | nop => exact hs
  | spdEdge lvl => exact hs.speedEdge lvl
  | dirEdge lvl => exact hs.dirEdge lvl
  | snapshot => exact hs.takeSnapshot
  | condition => exact hs.conditionPass
  | emit => exact hs.emitSentence
  | cycle => exact hs.cyclePass
  | reservedOp rsv lvl => exact hs.raiseFault nofun
  | reservedBits rsv lvl opc => exact hs.raiseFault nofun

/-- Settles O14: reset meets the invariant, and presenting an operation and running it keep it. -/
theorem everyStepKeepsTheInvariant : Obligations.EveryStepKeepsTheInvariant :=
  fun _ _ hs h => step_keeps (P := State.Inv) (fun s rest _ => .assertReset s rest)
    (fun _ now rest hs => hs.presentOp now rest) (fun i _ hs => hs.effect i) hs h

/-! ### The registers each operation leaves alone -/

@[simp] theorem effect_cfg (i : Instr) (s : State) : (effect i s).cfg = s.cfg := by
  cases i <;> simp [effect]

/-- Settles O11: a held state and reset keep CFG, and so does every operation's effect (`effect_cfg`). -/
theorem noStepWritesTheConfiguration : Obligations.NoStepWritesTheConfiguration := by
  intro s t h
  obtain ⟨-, rfl⟩ | ⟨rest, -, rfl⟩ | ⟨word, now, rest, -, rfl⟩ := step_cases h <;> simp

/-- CYCLE writes the capture registers as SNAPSHOT does: CONDITION and EMIT leave them alone (10_state R27). -/
theorem cyclePass_captureRegs (s : State) : (cyclePass s).captureRegs = (takeSnapshot s).captureRegs := by
  obtain h | h := cyclePass_cases s <;> simp [h, State.captureRegs]

theorem takeSnapshot_captureRegs (s : State) :
    (takeSnapshot s).captureRegs = (s.spdTs, s.dirTs, s.spdInt, s.dirInt, false) := by
  simp [State.captureRegs]

/-- Settles O17, by cases on the instruction; SNAPSHOT and CYCLE have their own equation. -/
theorem captureRegistersHaveFewWriters : Obligations.CaptureRegistersHaveFewWriters := by
  intro i s t h hspd hdir
  obtain rfl := exec_next_iff.mp h
  refine ⟨fun hsnap hcyc => ?_, ?_⟩
  · cases i with
    | spdEdge lvl => exact absurd rfl (hspd lvl)
    | dirEdge lvl => exact absurd rfl (hdir lvl)
    | snapshot => exact absurd rfl hsnap
    | cycle => exact absurd rfl hcyc
    | nop => rfl
    | condition => simp [effect, State.captureRegs]
    | emit => simp [effect, State.captureRegs]
    | reservedOp rsv lvl => rfl
    | reservedBits rsv lvl opc => rfl
  · rintro (rfl | rfl)
    · exact takeSnapshot_captureRegs s
    · exact (cyclePass_captureRegs s).trans (takeSnapshot_captureRegs s)

theorem emitSentence_out_grows (s : State) : s.out <+: (emitSentence s).out := ⟨_, rfl⟩

theorem cyclePass_out_grows (s : State) : s.out <+: (cyclePass s).out := by
  obtain h | h := cyclePass_cases s <;> rw [h]
  · simp
  · simpa using emitSentence_out_grows (conditionPass (takeSnapshot s))

/-- Only EMIT and CYCLE write OUT and LAST_EMIT (10_state R36, R37). -/
theorem effect_out_lastEmit {i : Instr} (he : i ≠ .emit) (hc : i ≠ .cycle) (s : State) :
    (effect i s).out = s.out ∧ (effect i s).lastEmit = s.lastEmit := by
  cases i with
  | emit => exact absurd rfl he
  | cycle => exact absurd rfl hc
  | _ => simp [effect]

theorem effect_out_grows (i : Instr) (s : State) : s.out <+: (effect i s).out := by
  by_cases he : i = .emit
  · exact he ▸ emitSentence_out_grows s
  by_cases hc : i = .cycle
  · exact hc ▸ cyclePass_out_grows s
  · rw [(effect_out_lastEmit he hc s).1]

/-- Settles O44: OUT after begins with OUT before, and is equal to it for the operations that do not emit. -/
theorem outputOnlyGrows : Obligations.OutputOnlyGrows := by
  intro i s t h
  obtain rfl := exec_next_iff.mp h
  obtain ⟨bytes, hb⟩ := effect_out_grows i s
  exact ⟨⟨bytes, hb.symm⟩, fun he hc => effect_out_lastEmit he hc s⟩

/-- The seven operations leave the fault registers alone (60_exceptions R220). -/
theorem effect_faultRegs {i : Instr} (hi : Spec.isOperation i = true) (s : State) :
    (effect i s).faultRegs = s.faultRegs := by
  cases i with
  | reservedOp rsv lvl => cases hi
  | reservedBits rsv lvl opc => cases hi
  | _ => simp [effect, State.faultRegs]

/-- No operation clears FAULT; an ill-formed word sets it (10_state R38). -/
theorem effect_fault_of_fault (i : Instr) {s : State} (hf : s.fault = true) : (effect i s).fault = true := by
  by_cases hi : Spec.isOperation i = true
  · exact (congrArg Prod.fst (effect_faultRegs hi s)).trans hf
  · cases i with
    | reservedOp rsv lvl => rfl
    | reservedBits rsv lvl opc => rfl
    | _ => exact absurd rfl hi

/-- Settles O49: of the three kinds of step only reset can clear FAULT. -/
theorem faultIsStickyUntilReset : Obligations.FaultIsStickyUntilReset := by
  refine ⟨fun s t h hf => ?_, fun i s t hi h => exec_next_iff.mp h ▸ effect_faultRegs hi s⟩
  obtain ⟨-, rfl⟩ | ⟨rest, hrst, -⟩ | ⟨word, now, rest, -, rfl⟩ := step_cases h
  · exact .inl hf
  · exact .inr ⟨rest, hrst⟩
  · exact .inl (effect_fault_of_fault _ hf)

/-! ### Boot and presentation -/

/-- The eight checks as the statement writes them out are the model's (10_state R42). -/
theorem passesChecks_iff_valid (d : CfgData) : Spec.passesChecks d ↔ Valid d := by
  have hdatapath : ∀ (k : SegmentCoeffs) (r : Nat), Spec.datapathHolds k r ↔ datapathOk k r := fun _ _ => Iff.rfl
  simp only [Spec.passesChecks, hdatapath, List.mem_cons, List.not_mem_nil, or_false, forall_eq_or_imp, forall_eq]
  constructor
  · rintro ⟨h1, ⟨p0, p1, p2⟩, h3, h4, h5, h6, h7, h8⟩
    exact ⟨h1, h3, h4, h5, h6, h7, h8, fun r hr => ⟨p0 r hr, p1 r hr, p2 r hr⟩⟩
  · rintro ⟨h1, h3, h4, h5, h6, h7, h8, h2⟩
    exact ⟨h1, ⟨fun r hr => (h2 r hr).1, fun r hr => (h2 r hr).2.1, fun r hr => (h2 r hr).2.2⟩,
      h3, h4, h5, h6, h7, h8⟩

/-- Settles O12: boot decides the model's eight checks, which are those written out. -/
theorem bootRefusesExactlyTheFailingConfigurations : Obligations.BootRefusesExactlyTheFailingConfigurations := by
  intro d inputs
  rw [passesChecks_iff_valid]
  exact ⟨fun hv => ⟨⟨d, hv⟩, rfl, dif_pos hv⟩, fun hv => dif_neg hv⟩

/-- Decoding an instruction's word runs the case table of R73 on the fields the word was built from. -/
theorem decode_encode_eq_decodeFields (i : Instr) :
    decode (encode i) = decodeFields i.rsvBits i.level i.opcBits := by
  obtain ⟨hrsv, hlvl, hopc⟩ := Laws.fields_opWord i.rsvBits i.level i.opcBits
  rw [decode, encode, hrsv, hlvl, hopc]

/-- The fields of a well-formed term of the RESERVED_BITS class go to that class (30_encoding R73). -/
theorem decodeFields_of_reservedBitsFields {rsv : BitVec 4} {lvl : Level} {opc : BitVec 3}
    (h : reservedBitsFields rsv lvl opc = true) : decodeFields rsv lvl opc = .reservedBits rsv lvl opc := by
  simp only [reservedBitsFields, Bool.and_eq_true, Bool.or_eq_true, decide_eq_true_eq, and_assoc] at h
  obtain ⟨hopc, hrsv | hlvl⟩ := h
  · rw [decodeFields, if_neg hopc, if_pos hrsv]
  · rw [decodeFields, if_neg hopc, if_pos hlvl, ite_self]

/-- The word of a well-formed instruction decodes to it (30_encoding R70, R73). -/
theorem decode_encode {i : Instr} (hi : i.wf = true) : decode (encode i) = i := by
  rw [decode_encode_eq_decodeFields]
  cases i with
  | reservedBits rsv lvl opc => exact decodeFields_of_reservedBitsFields hi
  | spdEdge lvl => cases lvl <;> rfl
  | dirEdge lvl => cases lvl <;> rfl
  | _ => rfl

/-- Settles O6: the step decodes the presented word, and that word decodes to the instruction. -/
theorem stepRunsThePresentedOperation : Obligations.StepRunsThePresentedOperation := by
  intro s i t rest hi hin
  rw [step, hin]
  exact congrArg (exec · (s.presentOp t rest)) (decode_encode hi)

/-! ### The status view -/

/-- A word laid out as STATUS is, read bit by bit (10_state R40). -/
theorem statusLayout_bits (fault stall speedRej newData : Bool) (dirStat : BitVec 2) :
    let w : BitVec 8 := 0b00#2 ++ BitVec.ofBool fault ++ BitVec.ofBool stall ++ dirStat ++
      BitVec.ofBool speedRej ++ BitVec.ofBool newData
    w.getLsbD 0 = newData ∧ w.getLsbD 1 = speedRej ∧ w.extractLsb' 2 2 = dirStat ∧ w.getLsbD 4 = stall ∧
      w.getLsbD 5 = fault ∧ w.getLsbD 6 = false ∧ w.getLsbD 7 = false := by
  revert fault stall speedRej newData dirStat
  decide

/-- Settles O51: STATUS has the layout whose bits `statusLayout_bits` reads. -/
theorem statusShowsTheFlags : Obligations.StatusShowsTheFlags :=
  ⟨rfl, fun s => statusLayout_bits s.fault s.stall s.speedRej s.newData s.dirStat.bits⟩

end Sys2Proof.Machine
end

section
/-! The proofs of the memory family (20_memory): what a conditioning pass reads. -/

namespace Sys2Proof.Machine

/-- The state with other values in the capture registers and on the `now` port, which no part of a conditioning
pass reads (20_memory R57). -/
def State.withCaptureAndNow (spdTs dirTs spdInt dirInt now : Word) (newData : Bool) (s : State) : State :=
  { s with spdTs := spdTs, dirTs := dirTs, spdInt := spdInt, dirInt := dirInt, newData := newData, nowPort := now }

section
variable (s : State) (a b c d now : Word) (n : Bool)

/-- The direction step takes both its guards and all it writes from S_SPD_INT, S_DIR_INT, PREV_DIR, SMOOTH_DIR and
CFG (43_deviation R156). -/
theorem dirStep_withCaptureAndNow (k : Band) :
    dirStep k (s.withCaptureAndNow a b c d now n) = (dirStep k s).withCaptureAndNow a b c d now n := by
  rw [dirStep_eq, dirStep_eq k s, apply_ite (State.withCaptureAndNow a b c d now n),
    apply_ite (State.withCaptureAndNow a b c d now n)]
  rfl

/-- The skip of direction looks at S_SPD_INT and S_DIR_INT only (43_deviation R154). -/
theorem directionPass_withCaptureAndNow (k : Band) :
    directionPass k (s.withCaptureAndNow a b c d now n) = (directionPass k s).withCaptureAndNow a b c d now n := by
  rw [directionPass, directionPass, apply_ite (State.withCaptureAndNow a b c d now n), dirStep_withCaptureAndNow]
  rfl

/-- The speed step looks at S_SPD_INT, PREV_SPEED and CFG only, so changing the capture registers or the time
sample commutes with the whole pass (46_cycle R200). -/
theorem conditionPass_withCaptureAndNow :
    conditionPass (s.withCaptureAndNow a b c d now n) = (conditionPass s).withCaptureAndNow a b c d now n := by
  rw [conditionPass_eq, conditionPass_eq s, apply_ite (State.withCaptureAndNow a b c d now n),
    ← directionPass_withCaptureAndNow]
  rfl

end

/-- Settles O30: the change of the registers CONDITION does not read commutes with the conditioning pass. -/
theorem conditionReadsOnlyTheSnapshot : Obligations.ConditionReadsOnlyTheSnapshot := by
  intro s t a b c d now n h
  obtain rfl := exec_next_iff.mp h
  exact exec_next_iff.mpr (conditionPass_withCaptureAndNow s a b c d now n).symm

end Sys2Proof.Machine
end

section
/-! The proofs of the encoding family (30_encoding): the decoder's three cases on a word's fields, and the lines of
the pseudo-operations. -/

namespace Sys2Proof.Machine

/-! ### Decode of an encoded instruction -/

/-- Settles O1: the decoder reads back the fields of the word, and R73's table sends them to the instruction. -/
theorem decodeOfEncodeIsTheInstruction : Obligations.DecodeOfEncodeIsTheInstruction := fun _ => decode_encode

/-! ### Time tokens: the decimal digits of a number -/

/-- A digit is read as its distance from '0' (30_encoding R76). -/
theorem digitValue_of_isDigit {c : Char} (h : c.isDigit = true) : digitValue c = some (c.toNat - '0'.toNat) :=
  if_pos (Char.isDigit_iff_toNat.mp h)

/-- A sequence of digits has the value the library gives it. -/
theorem digitsValue_eq_ofDigitChars {cs : List Char} (h : ∀ c ∈ cs, c.isDigit = true) (acc : Nat) :
    digitsValue acc cs = some (Nat.ofDigitChars 10 cs acc) := by
  induction cs generalizing acc with
  | nil => simp [digitsValue]
  | cons c cs ih =>
    obtain ⟨hc, hcs⟩ := List.forall_mem_cons.mp h
    simp only [digitsValue, digitValue_of_isDigit hc]
    rw [ih hcs, Nat.ofDigitChars_cons]

theorem isDigit_of_mem_decimal {n : Nat} : ∀ c ∈ Nat.toDigits 10 n, c.isDigit = true :=
  fun _ => Nat.isDigit_of_mem_toDigits (by norm_num) le_rfl

/-- Digits and a colon are the time the digits write, if it is in range (30_encoding R76). -/
theorem parseTime_append_colon {ds : List Char} {n : Nat} (hne : ds ≠ []) (hv : digitsValue 0 ds = some n)
    (hn : n < 2 ^ 32) : parseTime (ds ++ [':']) = .ok (BitVec.ofNat 32 n) := by
  obtain ⟨d, rds, hrev⟩ := List.exists_cons_of_ne_nil (List.reverse_ne_nil_iff.mpr hne)
  have hcolon : (ds ++ [':']).reverse = ':' :: d :: rds := by rw [List.reverse_concat, hrev]
  have hdigits : (d :: rds).reverse = ds := by rw [← hrev, List.reverse_reverse]
  simp only [parseTime, hcolon, hdigits, hv, if_pos hn]

/-- A time in decimal, followed by a colon, is that time. -/
theorem parseTime_decimal (t : Word) : parseTime (Nat.toDigits 10 t.toNat ++ [':']) = .ok t := by
  have hv : digitsValue 0 (Nat.toDigits 10 t.toNat) = some t.toNat := by
    rw [digitsValue_eq_ofDigitChars isDigit_of_mem_decimal, Nat.ofDigitChars_ten_toDigits]
  rw [parseTime_append_colon Nat.toDigits_ne_nil hv t.isLt, BitVec.ofNat_toNat, BitVec.setWidth_eq]

/-! ### The tokens of a line -/

/-- Folding over a word without blanks puts its characters on the token under way, for any way of adding a
character that does so for each single one. -/
theorem foldr_prepends_word {f : Char → List (List Char) → List (List Char)}
    (hf : ∀ c t ts, isBlank c = false → f c (t :: ts) = (c :: t) :: ts) (t : List Char) (ts : List (List Char))
    {w : List Char} (hw : ∀ c ∈ w, isBlank c = false) : w.foldr f (t :: ts) = (w ++ t) :: ts := by
  induction w with
  | nil => rfl
  | cons c w ih =>
    obtain ⟨hc, hcs⟩ := List.forall_mem_cons.mp hw
    rw [List.foldr_cons, ih hcs, hf _ _ _ hc, List.cons_append]

/-- A word without blanks is one token. -/
theorem tokens_word {w : List Char} (hne : w ≠ []) (hw : ∀ c ∈ w, isBlank c = false) : tokens w = [w] := by
  rw [tokens, foldr_prepends_word (fun c t ts hc => by simp [hc]) [] [] hw]
  simp [hne]

/-- A word without blanks and a blank are one token before the others (log entry 11). -/
theorem tokens_word_blank {w : List Char} (hne : w ≠ []) (hw : ∀ c ∈ w, isBlank c = false) (rest : List Char) :
    tokens (w ++ ' ' :: rest) = w :: tokens rest := by
  have hblank : isBlank ' ' = true := rfl
  rw [tokens, List.foldr_append, List.foldr_cons, if_pos hblank,
    foldr_prepends_word (fun c t ts hc => by simp [hc]) [] _ hw]
  simp [hne, tokens]

/-- A line without `;` has no comment (30_encoding R76). -/
theorem stripComment_eq_self {line : List Char} (h : ∀ c ∈ line, c ≠ ';') : stripComment line = line :=
  List.takeWhile_eq_self_iff.mpr fun c hc => bne_iff_ne.mpr (h c hc)

/-! ### Lines and pseudo-operations -/

/-- The digits and the colon of a time separate nothing and start no comment. -/
theorem time_token_plain {n : Nat} : ∀ c ∈ Nat.toDigits 10 n ++ [':'], isBlank c = false ∧ c ≠ ';' := by
  intro c hc
  rcases List.mem_append.mp hc with hd | hcolon
  · have hdigit := isDigit_of_mem_decimal c hd
    constructor
    · by_contra hb
      simp only [isBlank, Bool.not_eq_false, Bool.or_eq_true, beq_iff_eq] at hb
      rcases hb with (rfl | rfl) | rfl <;> exact absurd hdigit (by decide)
    · rintro rfl
      exact absurd hdigit (by decide)
  · rw [List.mem_singleton.mp hcolon]
    decide

/-- A line of a time in decimal, a colon, a blank and one mnemonic is the mnemonic's operation at that time
(30_encoding R76). -/
theorem parseLine_time_mnemonic (t : Word) {m : List Char} {o : SourceOp} (hne : m ≠ [])
    (hm : ∀ c ∈ m, isBlank c = false ∧ c ≠ ';') (ho : parseOp [m] = .ok o) :
    parseLine (Nat.toDigits 10 t.toNat ++ ':' :: ' ' :: m) = .ok (some ⟨t, o.expand⟩) := by
  rw [List.append_cons]
  have hcomment : ∀ c ∈ Nat.toDigits 10 t.toNat ++ [':'] ++ ' ' :: m, c ≠ ';' :=
    List.forall_mem_append.mpr ⟨fun c hc => (time_token_plain c hc).2,
      List.forall_mem_cons.mpr ⟨by decide, fun c hc => (hm c hc).2⟩⟩
  have htokens : tokens (stripComment (Nat.toDigits 10 t.toNat ++ [':'] ++ ' ' :: m)) =
      [Nat.toDigits 10 t.toNat ++ [':'], m] := by
    rw [stripComment_eq_self hcomment,
      tokens_word_blank (by simp) (fun c hc => (time_token_plain c hc).1), tokens_word hne (fun c hc => (hm c hc).1)]
  simp only [parseLine, htokens, parseTime_decimal, ho]

/-- The words of the LO edges (30_encoding R78). -/
theorem encode_edges_lo : encode (.spdEdge .lo) = 0x01#8 ∧ encode (.dirEdge .lo) = 0x02#8 := by decide

/-- Settles O5: the lines have one time token and one mnemonic, which stands for the LO edge (30_encoding R77). -/
theorem pseudoOperationsExpandToLowEdges : Obligations.PseudoOperationsExpandToLowEdges := by
  intro t
  obtain ⟨hspd, hdir⟩ := encode_edges_lo
  constructor
  · exact ⟨_, parseLine_time_mnemonic t (m := ['S', 'P', 'D']) (o := .spd) (by decide) (by simp [isBlank]) rfl,
      rfl, congrArg (HostInput.op · t) hspd⟩
  · exact ⟨_, parseLine_time_mnemonic t (m := ['D', 'I', 'R']) (o := .dir) (by decide) (by simp [isBlank]) rfl,
      rfl, congrArg (HostInput.op · t) hdir⟩

/-! ### The fields of a word, and the two reserved classes -/

theorem opcField_eq_iff (w : Byte) (k : BitVec 3) : opcField w = k ↔ w.toNat % 8 = k.toNat := by
  rw [← BitVec.toNat_inj]
  simp [opcField]

theorem rsvField_eq_zero_iff (w : Byte) : rsvField w = 0#4 ↔ w.toNat < 16 := by
  have hw := w.isLt
  rw [← BitVec.toNat_inj, rsvField, BitVec.extractLsb'_toNat, Nat.shiftRight_eq_div_pow]
  simp only [BitVec.toNat_ofNat]
  omega

theorem lvlField_eq_hi_iff (w : Byte) : lvlField w = .hi ↔ w.toNat / 8 % 2 = 1 := by
  simp [lvlField, BitVec.getLsbD, Nat.testBit_eq_decide_div_mod_eq]

/-- Settles O3: OPC = 111 is R73's first case, the two others are its condition on RSV and LVL; the count runs the
decoder over the 256 words. -/
theorem reservedWordsDecodeByTheirReason : Obligations.ReservedWordsDecodeByTheirReason := by
  refine ⟨fun w h7 => ?_, fun w h7 hrsv => ?_, fun w h7 h1 h2 hlvl => ?_, by decide⟩
  · exact ⟨_, _, if_pos ((opcField_eq_iff w 0b111#3).mpr h7)⟩
  · refine ⟨_, _, _, decodeFields_of_reservedBitsFields ?_⟩
    simp [reservedBitsFields, opcField_eq_iff, rsvField_eq_zero_iff, h7, hrsv]
  · refine ⟨_, _, _, decodeFields_of_reservedBitsFields ?_⟩
    simp [reservedBitsFields, opcField_eq_iff, lvlField_eq_hi_iff, h7, h1, h2, hlvl]

/-! ### The encoder on decoded words -/

/-- The fields of no reserved class decode to an operation, whose word has those fields (30_encoding R72, R73). -/
theorem decodeFields_operation {lvl : Level} {opc : BitVec 3} (hopc : opc ≠ 0b111#3)
    (h : reservedBitsFields 0#4 lvl opc = false) :
    (decodeFields 0#4 lvl opc).wf = true ∧ encode (decodeFields 0#4 lvl opc) = opWord 0#4 lvl opc := by
  revert opc
  cases lvl <;> decide

/-- Any three fields decode to a well-formed term, whose word has those fields (30_encoding R70, R73). -/
theorem encode_decodeFields (rsv : BitVec 4) (lvl : Level) (opc : BitVec 3) :
    (decodeFields rsv lvl opc).wf = true ∧ encode (decodeFields rsv lvl opc) = opWord rsv lvl opc := by
  by_cases hopc : opc = 0b111#3
  · subst hopc
    exact ⟨rfl, rfl⟩
  · cases hbits : reservedBitsFields rsv lvl opc with
    | true =>
      rw [decodeFields_of_reservedBitsFields hbits]
      exact ⟨hbits, rfl⟩
    | false =>
      obtain rfl : rsv = 0#4 := by
        by_contra hrsv
        simp [reservedBitsFields, hopc, hrsv] at hbits
      exact decodeFields_operation hopc hbits

/-- A word is its three fields (30_encoding R70). -/
theorem opWord_fields (w : Byte) : opWord (rsvField w) (lvlField w) (opcField w) = w := by
  revert w
  decide

/-- Settles O4: R73's cases put the three fields into the term, and they are the whole word. -/
theorem encodeOfDecodeIsTheWord : Obligations.EncodeOfDecodeIsTheWord := by
  intro w
  obtain ⟨hwf, henc⟩ := encode_decodeFields (rsvField w) (lvlField w) (opcField w)
  exact ⟨hwf, henc.trans (opWord_fields w)⟩

/-- Settles O2: the decoder and the encoder run on the nine words. -/
theorem operationWordsAreTheSpecsNine : Obligations.OperationWordsAreTheSpecsNine := by
  unfold Obligations.OperationWordsAreTheSpecsNine
  decide

end Sys2Proof.Machine
end

section
/-! The proofs of the capture family (40_capture): the two edge operations' results in the spec's integers, and
their frame. -/

namespace Sys2Proof.Machine

/-! ### Elapsed time in integers -/

/-- The specification's elapsed time is the value of the machine's (00_scope R10). -/
theorem elapsedTime_eq_toNat (a b : Word) : Spec.elapsedTime a b = (elapsed a b).toNat :=
  (elapsed_toNat a b).symm

/-- The elapsed time fits the register it is written to. -/
theorem ofInt_elapsedTime (a b : Word) : BitVec.ofInt 32 (Spec.elapsedTime a b) = elapsed a b := by
  rw [elapsedTime_eq_toNat, BitVec.ofInt_natCast, BitVec.ofNat_toNat, BitVec.setWidth_eq]

/-! ### The two edge operations -/

/-- An edge is ignored exactly when the line reads high or the debounce time has not passed (40_capture R100,
R101). -/
theorem edge_ignored_iff (lvl : Level) (now ts debounce : Word) :
    (lvl = .hi ∨ Spec.elapsedTime now ts < debounce.toNat) ↔ ¬(lvl = .lo ∧ debounce ≤ elapsed now ts) := by
  rw [elapsedTime_eq_toNat, Int.ofNat_lt, BitVec.le_def]
  cases lvl <;> simp

/-- What an edge operation leaves, known by cases on whether the edge is handled, is the spec's choice between the
state and the writes of an accepted edge. -/
theorem ite_edge_ignored_eq {lvl : Level} {now ts debounce : Word} {s written t : State}
    (h : (¬(lvl = .lo ∧ debounce ≤ elapsed now ts) ∧ t = s) ∨
      ((lvl = .lo ∧ debounce ≤ elapsed now ts) ∧ t = written)) :
    (if lvl = .hi ∨ Spec.elapsedTime now ts < debounce.toNat then s else written) = t := by
  obtain ⟨hignored, rfl⟩ | ⟨haccepted, rfl⟩ := h
  · exact if_pos ((edge_ignored_iff ..).mpr hignored)
  · exact if_neg fun hc => (edge_ignored_iff ..).mp hc haccepted

/-- The direction interval in natural numbers: where the difference is taken it does not wrap (40_capture R102). -/
theorem refreshedDirInt_eq (s : State) :
    refreshedDirInt s =
      if s.dirTs.toNat < s.spdTs.toNat then s.dirInt else BitVec.ofNat 32 (s.dirTs.toNat - s.spdTs.toNat) := by
  unfold refreshedDirInt
  by_cases h : s.spdTs ≤ s.dirTs
  · rw [if_pos h, if_neg (Nat.not_lt.mpr h)]
    have hlt : s.dirTs.toNat - s.spdTs.toNat < 2 ^ 32 := (Nat.sub_le ..).trans_lt s.dirTs.isLt
    apply BitVec.eq_of_toNat_eq
    rw [BitVec.toNat_sub_of_le h, BitVec.toNat_ofNat, Nat.mod_eq_of_lt hlt]
  · rw [if_neg h, if_pos (Nat.not_le.mp h)]

/-- Settles O15: the writes of an accepted edge (`speedEdge_cases`) hold the values R102 states in integers. -/
theorem speedEdgeResult : Obligations.SpeedEdgeResult := by
  refine ⟨by decide, by decide, fun s lvl => exec_next_iff.mpr ?_⟩
  rw [ofInt_elapsedTime, ← refreshedDirInt_eq]
  exact ite_edge_ignored_eq (speedEdge_cases lvl s)

/-- Settles O16: an accepted edge writes DIR_TS alone (`dirEdge_cases`; 40_capture R104). -/
theorem directionEdgeResult : Obligations.DirectionEdgeResult :=
  ⟨by decide, by decide, fun s lvl => exec_next_iff.mpr (ite_edge_ignored_eq (dirEdge_cases lvl s))⟩

/-- Settles O18: an ignored edge leaves the state, and the writes of an accepted one are to capture registers. -/
theorem edgesWriteOnlyCaptureRegisters : Obligations.EdgesWriteOnlyCaptureRegisters := by
  intro i lvl s hi
  refine ⟨effect i s, exec_eq_next i s, ?_⟩
  obtain rfl | rfl := hi
  · obtain ⟨-, h⟩ | ⟨-, h⟩ := speedEdge_cases lvl s
    · rw [effect, h]
    · rw [effect, h]
      rfl
  · obtain ⟨-, h⟩ | ⟨-, h⟩ := dirEdge_cases lvl s
    · rw [effect, h]
    · rw [effect, h]
      rfl

end Sys2Proof.Machine
end

section
/-! The proofs of the snapshot family (41_snapshot): SNAPSHOT with the timeout test in the spec's integers, two
snapshots in a row, and the stall a timed-out snapshot brings about. -/

namespace Sys2Proof.Machine

/-! ### SNAPSHOT -/

/-- A strict bound on an elapsed time is the same on machine words and on integers (00_scope R10). -/
theorem lt_elapsedTime_iff (w now ts : Word) : (w.toNat : Int) < Spec.elapsedTime now ts ↔ w < elapsed now ts := by
  rw [elapsedTime_eq_toNat, Int.ofNat_lt, BitVec.lt_def]

/-- S_SPD_INT after SNAPSHOT: zero past the timeout, else the copy (41_snapshot R121). -/
theorem takeSnapshot_sSpdInt (s : State) :
    (takeSnapshot s).sSpdInt =
      if (s.cfg.data.timeout.toNat : Int) < Spec.elapsedTime s.nowPort s.spdTs then 0#32 else s.spdInt := by
  rw [takeSnapshot_eq, State.setSnapshotInterval_sSpdInt]
  simp only [lt_elapsedTime_iff]

/-- STALL after SNAPSHOT tests the new S_SPD_INT for zero (41_snapshot R120; 10_state R35). -/
theorem takeSnapshot_stall (s : State) :
    (takeSnapshot s).stall = decide ((takeSnapshot s).sSpdInt.toNat = 0) :=
  decide_eq_decide.mpr (BitVec.toNat_inj (y := 0#32)).symm

/-- Settles O20: the interval and STALL are those of `takeSnapshot_sSpdInt` and `takeSnapshot_stall`; the rest is
copied or left. -/
theorem snapshotResult : Obligations.SnapshotResult := by
  refine ⟨by decide, fun s => exec_next_iff.mpr ?_⟩
  rw [← takeSnapshot_sSpdInt, ← takeSnapshot_stall]
  rfl

/-- Settles O21: both intervals are SPD_INT or 0 by the timeout test at their own time (`takeSnapshot_sSpdInt`), on
the capture registers the first snapshot left alone. -/
theorem repeatedSnapshotIsIdempotent : Obligations.RepeatedSnapshotIsIdempotent := by
  intro s s1 s2 t2 h1 h2
  obtain rfl := exec_next_iff.mp h1
  obtain rfl := exec_next_iff.mp h2
  simp only [effect, takeSnapshot_cfg, takeSnapshot_spdTs, takeSnapshot_dirTs, takeSnapshot_spdInt,
    takeSnapshot_dirInt, takeSnapshot_sSpdTs, takeSnapshot_sDirTs, takeSnapshot_sDirInt, takeSnapshot_sSpdInt,
    true_and]
  refine ⟨fun hsame => ?_, fun hfirst hthen => ⟨if_neg (not_lt.mpr hfirst), if_pos hthen⟩⟩
  simp only [hsame]

/-! ### A stalled cycle -/

/-- R42 check 6: every speed limit is at least 1. -/
theorem speedLimit_pos (c : Cfg) (b : Band) : 0 < speedLimit c.data b := by
  obtain ⟨-, -, -, -, ⟨h0, h1, h2⟩, -⟩ := c.valid
  cases b
  exacts [h0, h1, h2]

/-- A speed equal to the previous one is accepted (43_deviation R152). -/
theorem speedAccepted_self (c : Cfg) (v : Int) : speedAccepted c.data v v = true := by
  rw [speedAccepted_iff, sub_self]
  exact speedLimit_pos c _

/-- A pass over a stalled snapshot accepts speed 0, for PREV_SPEED is reset before the check, and skips direction
(43_deviation R150, R154). -/
theorem conditionPass_of_stalled {s : State} (h : s.sSpdInt = 0#32) :
    conditionPass s = (speedAcceptedState s 0).setDirStat .skipped := by
  have hcal : cal s.cfg.data s.sSpdInt = 0 := if_pos h
  have hprev : checkedAgainst s = 0 := if_pos h
  have hskip : directionSkipped (speedAcceptedState s 0) = true := (directionSkipped_iff _).mpr (.inl h)
  rw [conditionPass_eq, hcal, hprev, if_pos (speedAccepted_self s.cfg 0), directionPass, if_pos hskip]

theorem speedWord_zero : speedWord 0 = 0#32 := rfl

/-- Settles O47: the snapshot times out, so the pass is one over a stalled snapshot, and a sentence that follows
changes none of these registers. -/
theorem timedOutCycleReportsTheStall : Obligations.TimedOutCycleReportsTheStall := by
  intro s hlate
  have hstalled : (takeSnapshot s).sSpdInt = 0#32 := (takeSnapshot_sSpdInt s).trans (if_pos hlate)
  refine ⟨cyclePass s, rfl, ?_⟩
  obtain h | h := cyclePass_cases s <;>
    simp [h, conditionPass_of_stalled hstalled, takeSnapshot_stall, hstalled, speedAcceptedState, speedWord_zero]

end Sys2Proof.Machine
end

section
/-! The proofs of the calibration family (42_calibration): the segment an interval selects, and the order a monotone
calibration gives the intervals of one segment. -/

namespace Sys2Proof.Machine

/-! ### The rate of an interval and its segment -/

/-- A rate is below a threshold exactly when the interval is too long for it, with the division cleared
(42_calibration R130). -/
theorem rotationRate_lt_iff {sI : Word} (h0 : sI ≠ 0#32) (t : Nat) :
    rotationRate sI < t ↔ 100000000 < t * sI.toNat :=
  Nat.div_lt_iff_lt_mul (BitVec.toNat_pos_of_ne_zero h0)

/-- A longer interval has no higher rate (42_calibration R130). -/
theorem rotationRate_anti {sI sI' : Word} (h0 : sI ≠ 0#32) (h : sI.toNat ≤ sI'.toNat) :
    rotationRate sI' ≤ rotationRate sI :=
  Nat.div_le_div_left h (BitVec.toNat_pos_of_ne_zero h0)

/-- The segment by the length of the interval. The bounds are the longest intervals whose rates are still at least
5436 and 323 (42_calibration R130, R132). -/
def intervalSegment (n : Nat) : Segment :=
  if n ≤ 18395 then .seg2 else if n ≤ 309597 then .seg1 else .seg0

/-- The segment of an interval's rate is that of its length. -/
theorem segmentOf_rotationRate {sI : Word} (h0 : sI ≠ 0#32) :
    segmentOf (rotationRate sI) = intervalSegment sI.toNat := by
  have hT1 : rotationRate sI < Config.rT1 ↔ ¬sI.toNat ≤ 309597 := by
    rw [rotationRate_lt_iff h0, Config.rT1]; omega
  have hT2 : rotationRate sI < Config.rT2 ↔ ¬sI.toNat ≤ 18395 := by
    rw [rotationRate_lt_iff h0, Config.rT2]; omega
  by_cases h2 : sI.toNat ≤ 18395
  · have h1 : sI.toNat ≤ 309597 := by omega
    simp [segmentOf, intervalSegment, hT1, hT2, h1, h2]
  · simp only [segmentOf, intervalSegment, hT1, hT2, ite_not, if_neg h2]

/-- Intervals between the same two bounds select the same segment. -/
theorem intervalSegment_congr {n m : Nat} (hnm : n ≤ m)
    (h : m ≤ 18395 ∨ (18395 < n ∧ m ≤ 309597) ∨ 309597 < n) : intervalSegment m = intervalSegment n := by
  have h2 : m ≤ 18395 ↔ n ≤ 18395 := by omega
  have h1 : m ≤ 309597 ↔ n ≤ 309597 := by omega
  simp only [intervalSegment, h1, h2]

/-- The coefficients by the length of the interval. -/
theorem coeffsOf_intervalSegment (c : Calibration) (n : Nat) :
    coeffsOf c (intervalSegment n) = if n ≤ 18395 then c.seg2 else if n ≤ 309597 then c.seg1 else c.seg0 := by
  rw [intervalSegment, apply_ite (coeffsOf c), apply_ite (coeffsOf c)]
  rfl

/-! ### The calibration of an interval -/

/-- The calibration of an interval that is not stalled (42_calibration R133, R135). -/
theorem cal_of_ne_zero (c : CfgData) {sI : Word} (h0 : sI ≠ 0#32) :
    cal c sI = max 0 (poly (coeffsOf c.cal (segmentOf (rotationRate sI))) (rotationRate sI)) :=
  if_neg h0

/-- The model's polynomial is the one R131 writes. -/
theorem poly_eq_segmentPolynomial (k : SegmentCoeffs) (r : Int) : poly k r = Spec.segmentPolynomial k r := rfl

/-- Settles O22: the segment of the rate is that of the interval's length (`segmentOf_rotationRate`). -/
theorem calibratorSelectsTheSegmentByInterval : Obligations.CalibratorSelectsTheSegmentByInterval := by
  intro c sI h0
  rw [cal_of_ne_zero c h0, segmentOf_rotationRate h0, coeffsOf_intervalSegment, poly_eq_segmentPolynomial]
  rfl

/-- Settles O23: the longer interval has the lower rate, both rates are within RMAX, and they share a segment, which
are the premises of CAL_MONOTONE (42_calibration R136). -/
theorem monotoneCalibrationOrdersIntervals : Obligations.MonotoneCalibrationOrdersIntervals := by
  intro c sI sI' hmono h0 hdebounce hle hsame
  have h0' : sI' ≠ 0#32 := by
    rintro rfl
    exact absurd (BitVec.toNat_pos_of_ne_zero h0) (Nat.not_lt.mpr hle)
  have hseg : segmentOf (rotationRate sI') = segmentOf (rotationRate sI) := by
    rw [segmentOf_rotationRate h0', segmentOf_rotationRate h0, intervalSegment_congr hle hsame]
  rw [cal_of_ne_zero c h0', cal_of_ne_zero c h0]
  exact hmono _ _ (rotationRate_anti h0 hle) (rotationRate_le_rMax h0 (BitVec.le_def.mpr hdebounce)) hseg

end Sys2Proof.Machine
end

section
/-! The proofs of the deviation family (43_deviation): a second pass over the snapshot a first pass has seen, and the
range of the direction computation. -/

namespace Sys2Proof.Machine

/-- Settles O25: the pass accepts speed 0 and skips direction (`conditionPass_of_stalled`). -/
theorem stalledConditionReportsZeroSpeed : Obligations.StalledConditionReportsZeroSpeed :=
  fun _ h => exec_next_iff.mpr (conditionPass_of_stalled h).symm

/-! ### What the direction step leaves -/

@[simp] theorem dirStep_curSpeed (b : Band) (s : State) : (dirStep b s).curSpeed = s.curSpeed := by
  rw [dirStep_eq]
  split_ifs <;> simp

@[simp] theorem dirStep_speedRej (b : Band) (s : State) : (dirStep b s).speedRej = s.speedRej := by
  rw [dirStep_eq]
  split_ifs <;> simp

@[simp] theorem directionPass_curSpeed (b : Band) (s : State) : (directionPass b s).curSpeed = s.curSpeed := by
  rw [directionPass]
  split_ifs <;> simp

@[simp] theorem directionPass_speedRej (b : Band) (s : State) : (directionPass b s).speedRej = s.speedRej := by
  rw [directionPass]
  split_ifs <;> simp

/-- Under ON_COMPUTE the raw direction becomes PREV_DIR, accepted or not (43_deviation R156). -/
theorem dirStep_prevDir_of_onCompute (b : Band) {s : State} (hp : s.cfg.data.prevDirPolicy = .onCompute) :
    (dirStep b s).prevDir = degreesWord (dirRaw s) := by
  rw [dirStep_eq, if_pos hp]
  split_ifs <;> rfl

/-- Under ON_ACCEPT a rejected direction changes DIR_STAT alone (43_deviation R156). -/
theorem dirStep_of_rejected_onAccept {b : Band} {s : State} (hp : s.cfg.data.prevDirPolicy = .onAccept)
    (hrej : (dirStep b s).dirStat = .rejected) : dirStep b s = s.setDirStat .rejected := by
  have hcompute : s.cfg.data.prevDirPolicy ≠ .onCompute := by simp [hp]
  rw [dirStep_eq, if_neg hcompute] at hrej ⊢
  split_ifs at hrej ⊢
  · cases hrej
  · rfl

/-- The direction step does not read DIR_STAT, and it always writes it. -/
theorem dirStep_setDirStat (b : Band) (s : State) (d : DirStat) : dirStep b (s.setDirStat d) = dirStep b s := by
  rw [dirStep_eq, dirStep_eq b s]
  rfl

/-- R42 check 7: every direction limit is at least 1. -/
theorem dirLimit_pos (c : Cfg) (b : Band) : 0 < dirLimit c.data b := by
  obtain ⟨-, -, -, -, -, ⟨⟨h0, -⟩, ⟨h1, -⟩, ⟨h2, -⟩⟩, -⟩ := c.valid
  cases b
  exacts [Int.natCast_pos.mpr h0, Int.natCast_pos.mpr h1, Int.natCast_pos.mpr h2]

/-- A raw direction equal to PREV_DIR is accepted (43_deviation R156, corner case 3). -/
theorem dirStep_accepts_prevDir (b : Band) {s : State} (h : s.prevDir = degreesWord (dirRaw s)) :
    (dirStep b s).dirStat = .accepted := by
  have hprev : degreesValue s.prevDir = dirRaw s := h ▸ degreesWord_toNat (dirRaw_range s)
  have hok : directionAccepted (dirLimit s.cfg.data b) (dirRaw s) (degreesValue s.prevDir) = true := by
    rw [directionAccepted_iff, hprev, sub_self]
    exact .inl (dirLimit_pos s.cfg b)
  rw [dirStep_eq, if_pos hok]
  rfl

/-! ### A second pass over the same snapshot -/

/-- Every pass, accepted or not, leaves the speed it computed in PREV_SPEED (43_deviation R153). -/
theorem conditionPass_prevSpeed (s : State) :
    (conditionPass s).prevSpeed = speedWord (cal s.cfg.data s.sSpdInt) := by
  obtain h | ⟨-, h⟩ | h | h | h := conditionPass_cases s <;> rw [h] <;> rfl

/-- So the next pass over the snapshot compares its speed with itself. -/
theorem checkedAgainst_conditionPass {s : State} (h : intervalOk s.cfg.data s.sSpdInt) :
    checkedAgainst (conditionPass s) = cal s.cfg.data s.sSpdInt := by
  rw [checkedAgainst, conditionPass_sSpdInt, conditionPass_prevSpeed, speedValue,
    speedWord_toInt (cal_fitsS32 s.cfg.valid h), ite_eq_right_iff]
  exact fun h0 => (if_pos h0).symm

/-- The next pass over the snapshot accepts the speed (43_deviation R153, corner case 3). -/
theorem conditionPass_conditionPass {s : State} (h : intervalOk s.cfg.data s.sSpdInt) :
    conditionPass (conditionPass s) =
      directionPass (bandOf s.cfg.data (cal s.cfg.data s.sSpdInt))
        (speedAcceptedState (conditionPass s) (cal s.cfg.data s.sSpdInt)) := by
  rw [conditionPass_eq (conditionPass s), conditionPass_cfg, conditionPass_sSpdInt, checkedAgainst_conditionPass h,
    if_pos (speedAccepted_self s.cfg _)]

/-- A rejected speed leaves CUR_SPEED (43_deviation R153, corner case 5). -/
theorem conditionPass_curSpeed_of_speedRej {s : State} (hrej : (conditionPass s).speedRej = true) :
    (conditionPass s).curSpeed = s.curSpeed := by
  obtain h | ⟨-, h⟩ | h | h | h := conditionPass_cases s <;> rw [h] at hrej ⊢
  · rfl
  all_goals cases hrej

/-- Settles O26: the repeated speed is accepted (`conditionPass_conditionPass`), and the direction pass that follows
leaves the speed registers. -/
theorem rejectedSpeedIsAcceptedWhenRepeated : Obligations.RejectedSpeedIsAcceptedWhenRepeated := by
  intro s t hinterval h hrej
  obtain rfl := exec_next_iff.mp h
  refine ⟨conditionPass_curSpeed_of_speedRej hrej, _, exec_eq_next _ _, ?_⟩
  simp only [effect, conditionPass_conditionPass hinterval, conditionPass_prevSpeed, directionPass_speedRej,
    directionPass_curSpeed]
  simp [speedAcceptedState]

/-- A pass whose direction check was reached is the direction step on the accepted speed (46_cycle R200). -/
theorem conditionPass_of_direction_checked {s : State}
    (hchecked : (conditionPass s).dirStat = .accepted ∨ (conditionPass s).dirStat = .rejected) :
    directionSkipped s = false ∧
      conditionPass s = dirStep (bandOf s.cfg.data (cal s.cfg.data s.sSpdInt))
        (speedAcceptedState s (cal s.cfg.data s.sSpdInt)) := by
  rw [conditionPass_eq] at hchecked ⊢
  split_ifs at hchecked ⊢
  · rw [directionPass] at hchecked ⊢
    split_ifs at hchecked ⊢ with hskip
    · obtain h | h := hchecked <;> cases h
    · exact ⟨Bool.eq_false_of_not_eq_true hskip, rfl⟩
  · obtain h | h := hchecked <;> cases h

/-- The direction step leaves an accepted speed as it was written: accepting it once more changes nothing. -/
theorem speedAcceptedState_dirStep (b : Band) (s : State) (v : Int) :
    speedAcceptedState (dirStep b (speedAcceptedState s v)) v = dirStep b (speedAcceptedState s v) := by
  rw [dirStep_eq]
  split_ifs <;> rfl

/-- After a pass whose direction check was reached, the next pass over the snapshot is one more direction step
(46_cycle R200, corner case 2). -/
theorem conditionPass_conditionPass_of_direction_checked {s : State} (hinterval : intervalOk s.cfg.data s.sSpdInt)
    (hchecked : (conditionPass s).dirStat = .accepted ∨ (conditionPass s).dirStat = .rejected) :
    conditionPass (conditionPass s) =
      dirStep (bandOf s.cfg.data (cal s.cfg.data s.sSpdInt)) (conditionPass s) := by
  obtain ⟨hskip, hstep⟩ := conditionPass_of_direction_checked hchecked
  have haccepted : speedAcceptedState (conditionPass s) (cal s.cfg.data s.sSpdInt) = conditionPass s := by
    rw [hstep, speedAcceptedState_dirStep]
  have hskip' : directionSkipped (conditionPass s) = false := by
    rw [← hskip, directionSkipped, directionSkipped, conditionPass_sSpdInt, conditionPass_sDirInt]
  rw [conditionPass_conditionPass hinterval, haccepted, directionPass, hskip', if_neg Bool.false_ne_true]

theorem dirRaw_conditionPass (s : State) : dirRaw (conditionPass s) = dirRaw s := by
  rw [dirRaw, dirRaw, conditionPass_sDirInt, conditionPass_sSpdInt, conditionPass_cfg]

/-- Settles O27: the first pass left the raw direction in PREV_DIR, and the second computes the same one. -/
theorem rejectedDirectionIsConfirmedOnCompute : Obligations.RejectedDirectionIsConfirmedOnCompute := by
  intro s t hinterval hpolicy h hrej
  obtain rfl := exec_next_iff.mp h
  rw [effect] at hrej ⊢
  have hprev : (conditionPass s).prevDir = degreesWord (dirRaw (conditionPass s)) := by
    rw [dirRaw_conditionPass, (conditionPass_of_direction_checked (.inr hrej)).2]
    exact dirStep_prevDir_of_onCompute _ hpolicy
  have hpolicy' : (conditionPass s).cfg.data.prevDirPolicy = .onCompute := by rwa [conditionPass_cfg]
  refine ⟨_, exec_eq_next _ _, ?_⟩
  rw [effect, conditionPass_conditionPass_of_direction_checked hinterval (.inr hrej)]
  exact ⟨dirStep_accepts_prevDir _ hprev, (dirStep_prevDir_of_onCompute _ hpolicy').trans hprev.symm⟩

/-- Settles O28: the first pass changed nothing the direction step reads, so the second repeats its answer. -/
theorem rejectedDirectionStaysLockedOnAccept : Obligations.RejectedDirectionStaysLockedOnAccept := by
  intro s t hinterval hpolicy h hrej
  obtain rfl := exec_next_iff.mp h
  rw [effect] at hrej ⊢
  have hstep := (conditionPass_of_direction_checked (.inr hrej)).2
  have hlocked := dirStep_of_rejected_onAccept (s := speedAcceptedState s _) hpolicy (hstep ▸ hrej)
  have hsame : conditionPass (conditionPass s) = conditionPass s := by
    rw [conditionPass_conditionPass_of_direction_checked hinterval (.inr hrej), hstep, hlocked,
      dirStep_setDirStat, hlocked]
  refine ⟨_, exec_eq_next _ _, ?_⟩
  rw [effect, hsame, hstep, hlocked]
  simp [speedAcceptedState]

/-! ### The direction computation -/

/-- The quotient S_DIR_INT · 360 / S_SPD_INT of an interval within the rotation is at most a full turn, and a full
turn only for the whole rotation (43_deviation R155). -/
theorem turn_quotient_range {d n : Nat} (hn : 0 < n) (h : d ≤ n) :
    d * 360 / n ≤ 360 ∧ (d * 360 / n = 360 ↔ d = n) := by
  have hle : d * 360 / n ≤ 360 := Nat.div_le_of_le_mul (Nat.mul_le_mul_right 360 h)
  have hge : 360 ≤ d * 360 / n ↔ 360 * n ≤ d * 360 := Nat.le_div_iff_mul_le hn
  omega

/-- The machine's raw direction is the one R155 states in natural numbers. -/
theorem dirRaw_eq_rawDirection (s : State) :
    dirRaw s = Spec.rawDirection s.cfg.data s.sDirInt.toNat s.sSpdInt.toNat := by
  rw [dirRaw, Spec.rawDirection]
  push_cast
  rfl

/-- Settles O33: the quotient's range is `turn_quotient_range`; an offset below 360 is its own remainder. -/
theorem rawDirectionIsInRange : Obligations.RawDirectionIsInRange := by
  intro s h0 hle
  have hd := s.sDirInt.isLt
  obtain ⟨hq, hq360⟩ := turn_quotient_range (BitVec.toNat_pos_of_ne_zero h0) hle
  obtain ⟨-, (hoffset : s.cfg.data.dirOffset.toNat ≤ 359), -⟩ := s.cfg.valid
  obtain ⟨hraw0, hraw⟩ := dirRaw_range s
  have hturns : s.sDirInt = s.sSpdInt ∨ s.sDirInt = 0#32 → dirRaw s = s.cfg.data.dirOffset.toNat := by
    rw [dirRaw_eq_rawDirection, Spec.rawDirection]
    rintro (h | h)
    · rw [hq360.mpr (congrArg _ h)]
      omega
    · rw [h, BitVec.toNat_zero, Nat.zero_mul, Nat.zero_div]
      omega
  exact ⟨by omega, hq, hq360.trans BitVec.toNat_inj, rfl, hoffset, by omega, hraw0, by omega, hturns⟩

end Sys2Proof.Machine
end

section
/-! The proofs of the smoother family (44_smoother): when a pass smooths, and the smoother's arithmetic as modular
and rational formulas. -/

namespace Sys2Proof.Machine

/-! ### When a pass smooths -/

/-- A pass that does not answer ACCEPTED leaves SMOOTH_DIR (44_smoother R170). -/
theorem conditionPass_smoothDir_of_not_accepted {s : State} (hnot : (conditionPass s).dirStat ≠ .accepted) :
    (conditionPass s).smoothDir = s.smoothDir := by
  obtain h | ⟨-, h⟩ | h | h | h := conditionPass_cases s <;> rw [h] at hnot ⊢
  case inr.inr.inl => exact absurd rfl hnot
  all_goals rfl

/-- The same for CYCLE, whose other two parts write neither register (46_cycle R202). -/
theorem cyclePass_smoothDir_of_not_accepted {s : State} (hnot : (cyclePass s).dirStat ≠ .accepted) :
    (cyclePass s).smoothDir = s.smoothDir := by
  have hstat : (cyclePass s).dirStat = (conditionPass (takeSnapshot s)).dirStat := by
    obtain h | h := cyclePass_cases s <;> simp [h]
  have hsmooth : (cyclePass s).smoothDir = (conditionPass (takeSnapshot s)).smoothDir := by
    obtain h | h := cyclePass_cases s <;> simp [h]
  rw [hsmooth, conditionPass_smoothDir_of_not_accepted (hstat ▸ hnot), takeSnapshot_smoothDir]

/-- Settles O32, by the two instructions that run a conditioning pass. -/
theorem smoothedDirectionMovesOnlyWhenAccepted : Obligations.SmoothedDirectionMovesOnlyWhenAccepted := by
  intro i s t hi h hnot
  obtain rfl := exec_next_iff.mp h
  obtain rfl | rfl := hi <;> rw [effect] at hnot ⊢
  · exact conditionPass_smoothDir_of_not_accepted hnot
  · exact cyclePass_smoothDir_of_not_accepted hnot

/-! ### The shortest-path delta -/

/-- The three cases of the shortest-path delta (44_smoother R171). -/
theorem shortestDelta_cases (raw s : Int) :
    (raw - s < -180 ∧ shortestDelta raw s = raw - s + 360) ∨
    (180 < raw - s ∧ shortestDelta raw s = raw - s - 360) ∨
    (-180 ≤ raw - s ∧ raw - s ≤ 180 ∧ shortestDelta raw s = raw - s) := by
  simp only [shortestDelta]
  split_ifs <;> omega

/-- Settles O34: each case of the delta is the difference or one full turn from it (`shortestDelta_cases`). -/
theorem shortestDeltaIsWithinHalfATurn : Obligations.ShortestDeltaIsWithinHalfATurn := by
  intro raw s hr0 hr hs0 hs
  obtain ⟨hlt, h⟩ | ⟨hgt, h⟩ | ⟨hge, hle, h⟩ := shortestDelta_cases raw s <;> rw [h] <;> omega

/-- The machine's delta is the one R171 states. -/
theorem shortestDelta_eq_shortestPath (raw s : Int) : shortestDelta raw s = Spec.shortestPath raw s := rfl

/-! ### The gain step -/

/-- The machine's shift by eight is R172's division by 256. -/
theorem gainRound_eq_gainStep (g : Nat) (delta : Int) : gainRound g delta = Spec.gainStep g delta := by
  rw [gainRound, Spec.gainStep, Nat.shiftRight_eq_div_pow]

/-- At gain 1.0 the step is the whole delta: the added half does not reach the next multiple of 256
(44_smoother R172, corner case 1). -/
theorem gainRound_fullGain (delta : Int) : gainRound 256 delta = delta := by
  have hq : (delta.natAbs * 256 + 128) / 256 = delta.natAbs := by omega
  rw [gainRound_eq_gainStep, Spec.gainStep, hq, Int.sign_mul_natAbs]

/-- Adding half of the divisor before a division is rounding to the nearest, halves up (44_smoother R173). -/
theorem floor_div_add_half (n : Nat) : ⌊(n : ℚ) / 256 + 1 / 2⌋ = ((n + 128) / 256 : Nat) := by
  have hsum : (n : ℚ) / 256 + 1 / 2 = ((n + 128 : Nat) : ℚ) / (256 : Nat) := by
    push_cast
    ring
  rw [hsum, Rat.floor_natCast_div_natCast, Int.natCast_ediv]

/-- Settles O37, with the gain step as R172's division and the rational floor as the same one. -/
theorem gainStepRoundsHalfAwayFromZero : Obligations.GainStepRoundsHalfAwayFromZero := by
  intro g delta _ _
  rw [gainRound_eq_gainStep, Spec.gainStep, floor_div_add_half]

/-! ### The smoother -/

/-- Within a turn of [0, 359] on either side, one correction is the remainder (44_smoother R172, corner case 6). -/
theorem wrapDegrees_eq_emod {t : Int} (h : -360 ≤ t ∧ t < 720) : wrapDegrees t = t % 360 := by
  rw [wrapDegrees]
  split_ifs <;> omega

/-- A gain of at most 1.0 steps no further than half a turn, so one correction is enough
(44_smoother R172, corner case 6). -/
theorem smooth_eq_emod {g : Nat} (hg : g ≤ 256) {s raw : Int} (hs : 0 ≤ s ∧ s < 360) (hr : 0 ≤ raw ∧ raw < 360) :
    smooth g s raw = (s + gainRound g (shortestDelta raw s)) % 360 := by
  have hdelta := shortestDelta_range hr ⟨hs.1, by omega⟩
  have hstep := gainRound_natAbs_le hg (shortestDelta raw s)
  exact wrapDegrees_eq_emod (by omega)

/-- Settles O35: the correction is the remainder (`smooth_eq_emod`) and the step is R172's. -/
theorem smootherIsTheModularStep : Obligations.SmootherIsTheModularStep := by
  intro g s raw _ hg hs0 hs hr0 hr
  rw [smooth_eq_emod hg ⟨hs0, by omega⟩ ⟨hr0, by omega⟩, gainRound_eq_gainStep, shortestDelta_eq_shortestPath,
    Spec.smoothed]

/-- Settles O36: at gain 1.0 the step is the whole delta, which leads from s to raw up to full turns. -/
theorem fullGainDisablesFiltering : Obligations.FullGainDisablesFiltering := by
  intro s raw hs0 hs hr0 hr
  obtain ⟨-, -, hturns, -⟩ := shortestDeltaIsWithinHalfATurn raw s hr0 hr hs0 hs
  rw [smooth_eq_emod le_rfl ⟨hs0, by omega⟩ ⟨hr0, by omega⟩, gainRound_fullGain]
  omega

end Sys2Proof.Machine
end

section
/-! The proofs of the encoder family (45_encoder): DEC and the checksum against the library's digits and folds, the
range of a body's bytes, and the high nibble of a checksum. -/

namespace Sys2Proof.Machine

/-! ### DEC (45_encoder R181) -/

theorem decimal_of_lt {n : Nat} (h : n < 10) : Spec.decimal n = [decimalDigit n] := by
  rw [Spec.decimal, Nat.toDigits_of_lt_base h, List.map_singleton, Nat.toNat_digitChar_of_lt_ten h, decimalDigit]

/-- A further digit is written after the digits before it. -/
theorem decimal_append_digit {m k : Nat} (hm : 0 < m) (hk : k < 10) :
    Spec.decimal (10 * m + k) = Spec.decimal m ++ [decimalDigit k] := by
  rw [← decimal_of_lt hk]
  simp only [Spec.decimal, ← List.map_append, Nat.toDigits_append_toDigits (by norm_num : 1 < 10) hm hk]

/-- With fuel for n the machine's digits are the library's. -/
theorem decimalDigits_eq_decimal {fuel n : Nat} (h : n ≤ fuel) : decimalDigits fuel n = Spec.decimal n := by
  induction fuel generalizing n with
  | zero =>
    obtain rfl : n = 0 := by omega
    rfl
  | succ fuel ih =>
    rw [decimalDigits]
    split
    case isTrue hlt => rw [decimal_of_lt hlt]
    case isFalse hge =>
      rw [ih (by omega), ← decimal_append_digit (by omega) (by omega), Nat.div_add_mod]

theorem dec_natCast (n : Nat) : dec n = Spec.decimal n :=
  (if_neg (by omega)).trans (decimalDigits_eq_decimal le_rfl)

theorem decimal_ne_nil (n : Nat) : Spec.decimal n ≠ [] := by
  rw [Spec.decimal, Ne, List.map_eq_nil_iff]
  exact Nat.toDigits_ne_nil

/-- Read most significant digit first, the digits of n have the value n. -/
theorem decimal_value (n : Nat) :
    (Spec.decimal n).foldl (fun acc b => 10 * acc + (b.toNat - 0x30)) 0 = n := by
  induction n using Nat.base_induction 10 (by norm_num) with
  | single k hk => simp [decimal_of_lt hk, decimalDigit_toNat hk]
  | digit m k hk hm ih => simp [decimal_append_digit hm hk, decimalDigit_toNat hk, ih]

/-- Only 0 begins with '0': a number of one digit is that digit, and a longer one begins as its tenth does. -/
theorem decimal_head?_ne_zero {n : Nat} (hn : n ≠ 0) : (Spec.decimal n).head? ≠ some 0x30#8 := by
  induction n using Nat.base_induction 10 (by norm_num) with
  | single k hk =>
    rw [decimal_of_lt hk, List.head?_singleton, Ne, Option.some.injEq]
    intro h
    have hcode : (0x30#8).toNat = 48 + k := h ▸ decimalDigit_toNat hk
    rw [BitVec.toNat_ofNat] at hcode
    omega
  | digit m k hk hm ih =>
    rw [decimal_append_digit hm hk, List.head?_append_of_ne_nil _ (decimal_ne_nil m)]
    exact ih (by omega)

/-- Settles O39, with DEC as the library's digits (`dec_natCast`) and an induction over the digits of n. -/
theorem decimalIsShortest : Obligations.DecimalIsShortest := by
  refine ⟨rfl, fun n => ?_⟩
  have hdigits := dec_digit (Int.natCast_nonneg n)
  rw [dec_natCast] at hdigits ⊢
  refine ⟨decimal_ne_nil n, hdigits, decimal_value n, fun hhead => ?_⟩
  obtain rfl : n = 0 := by_contra fun hn => decimal_head?_ne_zero hn hhead
  rfl

/-! ### HEX2 (45_encoder R185) -/

theorem hexDigit_eq_hexCharacter (n : BitVec 4) : hexDigit n = Spec.hexCharacter n.toNat := by
  revert n
  decide

/-- The bits [7:4] and [3:0] of a byte are its quotient and remainder by 16. -/
theorem nibbles_toNat (c : Byte) :
    (c.extractLsb' 4 4).toNat = c.toNat / 16 ∧ (c.extractLsb' 0 4).toNat = c.toNat % 16 := by
  have := c.isLt
  simp only [BitVec.extractLsb'_toNat, Nat.shiftRight_eq_div_pow]
  omega

/-- Settles O40: the nibbles are quotient and remainder by 16, each with its character. -/
theorem hexPairIsTwoUppercaseDigits : Obligations.HexPairIsTwoUppercaseDigits := by
  intro c
  obtain ⟨hhigh, hlow⟩ := nibbles_toNat c
  rw [hex2, hexDigit_eq_hexCharacter, hexDigit_eq_hexCharacter, hhigh, hlow]

/-- A hexadecimal digit's code lies in '0' to 'F'. -/
theorem hexDigit_range (n : BitVec 4) : 0x30 ≤ (hexDigit n).toNat ∧ (hexDigit n).toNat ≤ 0x46 := by
  revert n
  decide

/-! ### The sentence of natural numbers (45_encoder R180, R182) and EMIT -/

/-- The exclusive-or does not depend on the side from which it is taken (45_encoder R184). -/
theorem checksum_eq_xorAll (l : List Byte) : checksum l = Spec.xorAll l := List.foldl_eq_foldr

theorem sentenceBody_natCast (dir spd : Nat) : sentenceBody dir spd = Spec.body dir spd := by
  have hint : (spd : Int).tdiv 100 = ((spd / 100 : Nat) : Int) := rfl
  have htenth : ((spd : Int) % 100).tdiv 10 = ((spd % 100 / 10 : Nat) : Int) := rfl
  rw [sentenceBody, hint, htenth, dec_natCast, dec_natCast, dec_natCast]
  rfl

theorem sentence_natCast (dir spd : Nat) : sentence dir spd = Spec.wholeSentence dir spd := by
  rw [sentence, hexPairIsTwoUppercaseDigits, checksum_eq_xorAll, sentenceBody_natCast]
  rfl

/-- Settles O38: SMOOTH_DIR and a speed that is not negative are natural numbers, and EMIT's writes are R186's. -/
theorem emitResult : Obligations.EmitResult := by
  refine ⟨rfl, fun s hspeed => ?_⟩
  have hcast : s.curSpeed.toInt = (s.curSpeed.toNat : Int) :=
    BitVec.toInt_eq_toNat_of_msb (by rw [BitVec.msb_eq_toInt, decide_eq_false_iff_not]; omega)
  rw [exec_eq_next, effect, emitSentence, speedValue, hcast, sentence_natCast]
  rfl

/-! ### The range of the checksum (45_encoder R185) -/

theorem checksum_cons (b : Byte) (l : List Byte) : checksum (b :: l) = b ^^^ checksum l := by
  simp only [checksum_eq_xorAll, Spec.xorAll, List.foldr_cons]

theorem checksum_append (l m : List Byte) : checksum (l ++ m) = checksum l ^^^ checksum m := by
  induction l with
  | nil => simp [checksum]
  | cons b l ih => rw [List.cons_append, checksum_cons, ih, checksum_cons, BitVec.xor_assoc]

/-- The high nibble a checksum of digits has: each digit contributes 3, and an even number of them cancels
(45_encoder R185). -/
def DigitsChecksum (c : Byte) : Prop := c.extractLsb' 4 4 = 0#4 ∨ c.extractLsb' 4 4 = 3#4

theorem DigitsChecksum.xor {a b : Byte} (ha : DigitsChecksum a) (hb : DigitsChecksum b) :
    DigitsChecksum (a ^^^ b) := by
  rw [DigitsChecksum, BitVec.extractLsb'_xor]
  obtain ha | ha := ha <;> obtain hb | hb := hb <;> rw [ha, hb] <;> decide

theorem DigitsChecksum.of_digit {b : Byte} (h : 48 ≤ b.toNat ∧ b.toNat ≤ 57) : DigitsChecksum b :=
  .inr (BitVec.eq_of_toNat_eq ((nibbles_toNat b).1.trans (show b.toNat / 16 = 3 by omega)))

theorem DigitsChecksum.of_digits {l : List Byte} (h : ∀ b ∈ l, 48 ≤ b.toNat ∧ b.toNat ≤ 57) :
    DigitsChecksum (checksum l) := by
  induction l with
  | nil => exact .inl rfl
  | cons b l ih =>
    obtain ⟨hb, hl⟩ := List.forall_mem_cons.mp h
    rw [checksum_cons]
    exact (of_digit hb).xor (ih hl)

/-- A body's fixed characters have the checksum 0x13, and its three numbers contribute theirs (45_encoder R184). -/
theorem checksum_sentenceBody (dir spd : Int) :
    checksum (sentenceBody dir spd) =
      0x13#8 ^^^ (checksum (dec dir) ^^^ checksum (dec (spd.tdiv 100)) ^^^ checksum (dec ((spd % 100).tdiv 10))) := by
  have hfixed : 0x13#8 = checksum (asciiBytes ['W', 'I', 'M', 'W', 'V', ',']) ^^^
      checksum (asciiBytes ['.', '0', ',', 'R', ',']) ^^^ checksum (asciiBytes ['.']) ^^^
      checksum (asciiBytes [',', 'N', ',', 'A']) := by decide
  simp only [sentenceBody, checksum_append]
  rw [hfixed]
  ac_rfl

/-- A high nibble of 1 from the fixed characters and 0 or 3 from the digits make 1 or 2 (45_encoder R185). -/
theorem DigitsChecksum.xor_fixed_range {c : Byte} (h : DigitsChecksum c) :
    0x10 ≤ (0x13#8 ^^^ c).toNat ∧ (0x13#8 ^^^ c).toNat ≤ 0x2F := by
  have hhigh : ((0x13#8 ^^^ c).extractLsb' 4 4).toNat = 1 ∨ ((0x13#8 ^^^ c).extractLsb' 4 4).toNat = 2 := by
    rw [BitVec.extractLsb'_xor]
    obtain h | h := h <;> rw [h] <;> decide
  rw [(nibbles_toNat _).1] at hhigh
  omega

/-- Settles O41: the body's digits leave the high nibble of its fixed characters or change it to 2. -/
theorem sentenceChecksumRange : Obligations.SentenceChecksumRange := by
  intro dir spd
  have hdigits : ∀ n : Nat, DigitsChecksum (checksum (dec n)) := fun n => .of_digits (dec_digit (Int.natCast_nonneg n))
  rw [checksum_sentenceBody]
  exact (((hdigits dir).xor (hdigits (spd / 100))).xor (hdigits (spd % 100 / 10))).xor_fixed_range

/-! ### The length of a sentence (45_encoder R186, corner case 5) -/

/-- DEC(n) has at most k digits exactly when n is below 10 to the k. -/
theorem length_decimal_le_iff {n k : Nat} (hk : 0 < k) : (Spec.decimal n).length ≤ k ↔ n < 10 ^ k := by
  rw [Spec.decimal, List.length_map, Nat.length_toDigits_le_iff (by norm_num) hk]

theorem length_decimal_pos (n : Nat) : 0 < (Spec.decimal n).length := List.length_pos_of_ne_nil (decimal_ne_nil n)

/-- A sentence is 20 fixed characters and its three numbers. -/
theorem length_sentence (dir spd : Nat) :
    (sentence dir spd).length =
      20 + (Spec.decimal dir).length + (Spec.decimal (spd / 100)).length + (Spec.decimal (spd % 100 / 10)).length := by
  rw [sentence_natCast]
  simp only [Spec.wholeSentence, Spec.body, Spec.text, List.length_append, List.length_map, List.length_cons,
    List.length_nil]
  omega

/-- Settles O42: a direction has one to three digits, a speed's integer part one to eight and its tenth one. -/
theorem sentenceLengthBounds : Obligations.SentenceLengthBounds := by
  intro dir spd hdir hspd
  have hdirLen : (Spec.decimal dir).length ≤ 3 := (length_decimal_le_iff (by norm_num)).mpr (by omega)
  have hintLen : (Spec.decimal (spd / 100)).length ≤ 8 := (length_decimal_le_iff (by norm_num)).mpr (by omega)
  have htenthLen : (Spec.decimal (spd % 100 / 10)).length ≤ 1 := (length_decimal_le_iff (by norm_num)).mpr (by omega)
  have hdirPos := length_decimal_pos dir
  have hintPos := length_decimal_pos (spd / 100)
  have htenthPos := length_decimal_pos (spd % 100 / 10)
  rw [length_sentence]
  omega

/-! ### The bytes of a sentence (45_encoder R180, R187) -/

/-- Every byte of a body lies in ',' to 'W', above both delimiters and the line terminators. -/
theorem sentenceBody_range {dir spd : Nat} : ∀ b ∈ sentenceBody dir spd, 0x2C ≤ b.toNat ∧ b.toNat ≤ 0x57 := by
  have hdigits : ∀ n : Nat, ∀ b ∈ dec n, 0x2C ≤ b.toNat ∧ b.toNat ≤ 0x57 := fun n b hb => by
    have := dec_digit (Int.natCast_nonneg n) b hb
    omega
  simp only [sentenceBody, List.forall_mem_append]
  exact ⟨⟨⟨⟨⟨⟨by decide, hdigits dir⟩, by decide⟩, hdigits (spd / 100)⟩, by decide⟩, hdigits (spd % 100 / 10)⟩,
    by decide⟩

/-- A sentence is '$', its body, '*' and the two digits of the checksum. -/
theorem sentence_eq_cons (dir spd : Int) :
    sentence dir spd = 0x24#8 :: (sentenceBody dir spd ++ 0x2A#8 :: hex2 (checksum (sentenceBody dir spd))) :=
  List.append_assoc _ (asciiBytes ['*']) _

/-- A byte in ',' to 'W' is neither delimiter, is 7-bit ASCII and ends no line. -/
theorem plain_of_range {b : Byte} (h : 0x2C ≤ b.toNat ∧ b.toNat ≤ 0x57) :
    (b ≠ 0x2A#8 ∧ b ≠ 0x24#8) ∧ b.toNat < 128 ∧ b ≠ 0x0D#8 ∧ b ≠ 0x0A#8 := by
  refine ⟨⟨?_, ?_⟩, by omega, ?_, ?_⟩ <;> bv_omega

/-- Settles O43: the body's bytes and the checksum's digits lie in ',' to 'W' (`sentenceBody_range`,
`hexDigit_range`), where there is neither delimiter nor line terminator. -/
theorem sentenceDelimitersAreUnique : Obligations.SentenceDelimitersAreUnique := by
  intro dir spd
  have hbody := fun b hb => plain_of_range (sentenceBody_range (dir := dir) (spd := spd) b hb)
  have hhex := fun n => plain_of_range (b := hexDigit n) (by have := hexDigit_range n; omega)
  rw [sentence_eq_cons, hex2]
  obtain ⟨⟨hstar, hdollar⟩, hascii⟩ := hhex ((checksum (sentenceBody dir spd)).extractLsb' 4 4)
  obtain ⟨⟨lstar, ldollar⟩, lascii⟩ := hhex ((checksum (sentenceBody dir spd)).extractLsb' 0 4)
  refine ⟨_, _, _, rfl, hstar, lstar, hdollar, ldollar, fun b hb => (hbody b hb).1, ?_⟩
  simp only [List.forall_mem_cons, List.forall_mem_append]
  exact ⟨by decide, fun b hb => (hbody b hb).2, by decide, hascii, lascii, List.forall_mem_nil _⟩

end Sys2Proof.Machine
end

section
/-! The proofs of the cycle family (46_cycle): CONDITION against the spec's formulas, a second pass over an accepted
snapshot, CYCLE as its parts, and an edge that falls between them. -/

namespace Sys2Proof.Machine

/-- Settles O50: the decoder runs on the two words, and NOP's effect is the state itself. -/
theorem nopChangesNothing : Obligations.NopChangesNothing :=
  ⟨rfl, ⟨_, _, _, rfl⟩, fun _ => rfl⟩

/-! ### Who writes the filter registers -/

/-- Settles O31, by cases on the instruction: the other seven write none of these registers (46_cycle R201). -/
theorem filterRegistersChangeOnlyInConditioning : Obligations.FilterRegistersChangeOnlyInConditioning := by
  intro i s t h hcond hcyc
  obtain rfl := exec_next_iff.mp h
  cases i with
  | condition => exact absurd rfl hcond
  | cycle => exact absurd rfl hcyc
  | _ => simp [effect, State.filterRegs]

/-! ### The spec's formulas and the machine's (42_calibration R135, 43_deviation R151, 44_smoother R172) -/

/-- The calibrated speed, clamp and segment choice included (42_calibration R130 to R135). -/
theorem cal_eq_calibratedSpeed (c : CfgData) (sI : Word) : cal c sI = Spec.calibratedSpeed c sI.toNat := by
  by_cases h0 : sI = 0#32
  · subst h0
    rfl
  · have hne : sI.toNat ≠ 0 := (BitVec.toNat_pos_of_ne_zero h0).ne'
    rw [cal_of_ne_zero c h0, Spec.calibratedSpeed, if_neg hne, segmentOf, rotationRate, Config.rateNum, Config.rT1,
      Config.rT2]
    split_ifs <;> rfl

theorem speedLimit_bandOf (c : CfgData) (v : Int) : speedLimit c (bandOf c v) = Spec.speedLimitAt c v := by
  rw [bandOf, Spec.speedLimitAt]
  split_ifs <;> rfl

theorem dirLimit_bandOf (c : CfgData) (v : Int) : dirLimit c (bandOf c v) = Spec.dirLimitAt c v := by
  rw [bandOf, Spec.dirLimitAt]
  split_ifs <;> rfl

/-- A speed inside s32 is written to its register as it is (00_scope R9). -/
theorem speedWord_of_fitsS32 {v : Int} (h : fitsS32 v) : speedWord v = BitVec.ofInt 32 v := if_pos h

/-- DIR_RAW as it is written to PREV_DIR (43_deviation R155, R156). -/
theorem degreesWord_dirRaw (s : State) :
    degreesWord (dirRaw s) = BitVec.ofNat 9 (Spec.rawDirection s.cfg.data s.sDirInt.toNat s.sSpdInt.toNat) := by
  rw [dirRaw_eq_rawDirection]
  exact BitVec.ofInt_natCast ..

/-- The smoothed direction as it is written to SMOOTH_DIR: R172's modular step for every value of the nine-bit
register, those above 359 included. -/
theorem degreesWord_smooth (s : State) :
    degreesWord (smooth s.cfg.data.gainQ8.toNat (degreesValue s.smoothDir) (dirRaw s)) =
      BitVec.ofInt 9 (Spec.smoothed s.cfg.data.gainQ8.toNat s.smoothDir.toNat
        (Spec.rawDirection s.cfg.data s.sDirInt.toNat s.sSpdInt.toNat)) := by
  have hdir : 0 ≤ degreesValue s.smoothDir ∧ degreesValue s.smoothDir < 512 :=
    ⟨Int.natCast_nonneg _, Int.ofNat_lt.mpr s.smoothDir.isLt⟩
  have hdelta := shortestDelta_range (dirRaw_range s) hdir
  have hstep := gainRound_natAbs_le (gainQ8_le s.cfg) (shortestDelta (dirRaw s) (degreesValue s.smoothDir))
  rw [degreesWord, smooth, wrapDegrees_eq_emod (by omega), gainRound_eq_gainStep, shortestDelta_eq_shortestPath,
    dirRaw_eq_rawDirection, Spec.smoothed]

/-! ### CONDITION's three tests in the spec's integers -/

theorem speedAccepted_bandOf_iff (c : CfgData) (v p : Int) :
    speedAccepted c v p = true ↔ ¬ Spec.speedLimitAt c v ≤ ((v - p).natAbs : Int) := by
  rw [speedAccepted_iff, speedLimit_bandOf, not_le]

theorem directionSkipped_iff_toNat (s : State) :
    directionSkipped s = true ↔ s.sSpdInt = 0#32 ∨ s.sSpdInt.toNat < s.sDirInt.toNat :=
  directionSkipped_iff s

theorem directionAccepted_bandOf_iff (s : State) (v : Int) :
    directionAccepted (dirLimit s.cfg.data (bandOf s.cfg.data v)) (dirRaw s) (degreesValue s.prevDir) = true ↔
      ((Spec.rawDirection s.cfg.data s.sDirInt.toNat s.sSpdInt.toNat : Int) - s.prevDir.toNat).natAbs <
          Spec.dirLimitAt s.cfg.data v ∨
        360 < ((Spec.rawDirection s.cfg.data s.sDirInt.toNat s.sSpdInt.toNat : Int) - s.prevDir.toNat).natAbs +
          Spec.dirLimitAt s.cfg.data v := by
  rw [directionAccepted_iff, dirLimit_bandOf, dirRaw_eq_rawDirection, degreesValue]
  omega

theorem dirRaw_speedAcceptedState (s : State) (v : Int) : dirRaw (speedAcceptedState s v) = dirRaw s := rfl

/-- Settles O24: the pass and its direction step (`conditionPass_eq`, `dirStep_eq`) branch where R200 does, by the
spec's form of each test, and write the spec's values. -/
theorem conditionResult : Obligations.ConditionResult := by
  refine ⟨rfl, fun s hinterval => exec_next_iff.mpr ?_⟩
  rw [effect, conditionPass_eq]
  simp only [Spec.afterCondition, ← cal_eq_calibratedSpeed, ← degreesWord_dirRaw, ← degreesWord_smooth,
    ← speedWord_of_fitsS32 (cal_fitsS32 s.cfg.valid hinterval), speedAccepted_bandOf_iff, ite_not]
  generalize cal s.cfg.data s.sSpdInt = v
  refine if_ctx_congr Iff.rfl (fun _ => rfl) fun _ => ?_
  rw [directionPass, dirStep_eq, dirRaw_speedAcceptedState]
  refine if_ctx_congr (directionSkipped_iff_toNat s).symm (fun _ => rfl) fun _ => ?_
  refine if_ctx_congr (directionAccepted_bandOf_iff s v).symm (fun _ => rfl) fun _ => ?_
  by_cases hpolicy : s.cfg.data.prevDirPolicy = .onCompute
  · rw [if_pos hpolicy]
    exact (if_pos hpolicy).symm
  · rw [if_neg hpolicy]
    exact (if_neg hpolicy).symm

/-! ### A second pass over an accepted snapshot -/

/-- An accepted direction becomes PREV_DIR under both policies (43_deviation R156). -/
theorem dirStep_prevDir_of_accepted {b : Band} {s : State} (haccepted : (dirStep b s).dirStat = .accepted) :
    (dirStep b s).prevDir = degreesWord (dirRaw s) := by
  rw [dirStep_eq] at haccepted ⊢
  split_ifs at haccepted ⊢
  · rfl
  all_goals cases haccepted

/-- A direction step that accepts what PREV_DIR holds, after one that accepted, changes SMOOTH_DIR alone. -/
theorem dirStep_of_prevDir (b : Band) {s : State} (hprev : s.prevDir = degreesWord (dirRaw s))
    (hstat : s.dirStat = .accepted) :
    dirStep b s =
      s.setSmoothDir (degreesWord (smooth s.cfg.data.gainQ8.toNat (degreesValue s.smoothDir) (dirRaw s))) := by
  have hok := dirStep_accepts_prevDir b hprev
  rw [dirStep_eq] at hok ⊢
  split_ifs at hok ⊢
  · rw [← hprev, ← hstat]
    rfl
  all_goals cases hok

/-- Settles O29: the accepting pass left DIR_STAT and, in PREV_DIR, the raw direction the second pass computes. -/
theorem secondConditionOnlySmoothsAgain : Obligations.SecondConditionOnlySmoothsAgain := by
  intro s t hinterval h haccepted
  obtain rfl := exec_next_iff.mp h
  rw [effect] at haccepted ⊢
  have hstep := (conditionPass_of_direction_checked (.inl haccepted)).2
  have hprev : (conditionPass s).prevDir = degreesWord (dirRaw (conditionPass s)) := by
    rw [dirRaw_conditionPass, hstep]
    exact dirStep_prevDir_of_accepted (hstep ▸ haccepted)
  refine exec_next_iff.mpr ?_
  rw [effect, conditionPass_conditionPass_of_direction_checked hinterval (.inl haccepted),
    dirStep_of_prevDir _ hprev haccepted, degreesWord_smooth]
  rfl

/-! ### CYCLE as its parts -/

/-- A bound on an elapsed time that includes it is the same on machine words and on integers (00_scope R10). -/
theorem le_elapsedTime_iff (w now ts : Word) : (w.toNat : Int) ≤ Spec.elapsedTime now ts ↔ w ≤ elapsed now ts := by
  rw [elapsedTime_eq_toNat, Int.ofNat_le, BitVec.le_def]

/-- Settles O45: CYCLE's equation (`cyclePass_eq`) with the rate limit in the spec's integers. -/
theorem cycleIsSnapshotConditionEmit : Obligations.CycleIsSnapshotConditionEmit := by
  refine ⟨rfl, fun s => ⟨_, _, _, exec_eq_next _ _, exec_eq_next _ _, exec_eq_next _ _, exec_next_iff.mpr ?_⟩⟩
  simp only [le_elapsedTime_iff]
  exact (cyclePass_eq s).symm

/-! ### A run of operations as a fold -/

/-- The state with other things for the host to do. -/
def State.withInputs (inputs : List HostInput) (s : State) : State := { s with inputs := inputs }

theorem directionPass_withInputs (k : Band) (s : State) (rest : List HostInput) :
    directionPass k (s.withInputs rest) = (directionPass k s).withInputs rest := by
  simp only [directionPass, dirStep_eq, apply_ite (State.withInputs rest)]
  rfl

theorem conditionPass_withInputs (s : State) (rest : List HostInput) :
    conditionPass (s.withInputs rest) = (conditionPass s).withInputs rest := by
  rw [conditionPass_eq, conditionPass_eq s, apply_ite (State.withInputs rest), ← directionPass_withInputs]
  rfl

theorem emitSentence_withInputs (s : State) (rest : List HostInput) :
    emitSentence (s.withInputs rest) = (emitSentence s).withInputs rest := rfl

theorem cyclePass_withInputs (s : State) (rest : List HostInput) :
    cyclePass (s.withInputs rest) = (cyclePass s).withInputs rest := by
  have hsnapshot : takeSnapshot (s.withInputs rest) = (takeSnapshot s).withInputs rest := rfl
  rw [cyclePass_eq, cyclePass_eq s, apply_ite (State.withInputs rest), hsnapshot, conditionPass_withInputs,
    emitSentence_withInputs]
  rfl

/-- No operation reads or writes what the host will do next (log entry 1). -/
theorem effect_withInputs (i : Instr) (s : State) (rest : List HostInput) :
    effect i (s.withInputs rest) = (effect i s).withInputs rest := by
  cases i with
  | spdEdge lvl =>
    rw [effect, effect, speedEdge, speedEdge, apply_ite (State.withInputs rest)]
    rfl
  | dirEdge lvl =>
    rw [effect, effect, dirEdge, dirEdge, apply_ite (State.withInputs rest)]
    rfl
  | condition => exact conditionPass_withInputs s rest
  | cycle => exact cyclePass_withInputs s rest
  | _ => rfl

/-- The state an operation leaves that is presented with its time sample (30_encoding R71). -/
def State.perform (s : State) (o : TimedOp) : State := effect o.instr { s with nowPort := o.time }

/-- A run over a program performs its operations in order (30_encoding R76). -/
theorem run_programInputs {ops : List TimedOp} (hwf : ops.all (fun o => o.instr.wf) = true) (s : State) :
    core.run ops.length { s with inputs := programInputs ops } =
      .next { ops.foldl State.perform s with inputs := [] } := by
  induction ops generalizing s with
  | nil => rfl
  | cons o ops ih =>
    obtain ⟨ho, hops⟩ := Bool.and_eq_true_iff.mp hwf
    rw [List.length_cons, run_op ops.length rfl, decode_encode ho]
    exact (congrArg (core.run ops.length) (effect_withInputs ..)).trans (ih hops (s.perform o))

@[simp] theorem effect_nowPort (i : Instr) (s : State) : (effect i s).nowPort = s.nowPort := by
  cases i <;> simp [effect]

/-- An operation presented with the sample that stands on the port is its effect. -/
theorem perform_of_nowPort {s : State} {o : TimedOp} (h : s.nowPort = o.time) : s.perform o = effect o.instr s := by
  rw [State.perform, ← h]

/-! ### An edge commutes with what leaves the capture registers alone -/

/-- The state with the capture registers and the time sample of `e`. -/
def State.withCaptureOf (s e : State) : State :=
  s.withCaptureAndNow e.spdTs e.dirTs e.spdInt e.dirInt e.nowPort e.newData

/-- Taking over what the state already holds changes nothing. -/
theorem State.withCaptureOf_eq_self {s e : State} (hregs : s.captureRegs = e.captureRegs)
    (hnow : s.nowPort = e.nowPort) : s.withCaptureOf e = s := by
  simp only [State.captureRegs, Prod.mk.injEq] at hregs
  obtain ⟨hspdTs, hdirTs, hspdInt, hdirInt, hnew⟩ := hregs
  rw [State.withCaptureOf, ← hspdTs, ← hdirTs, ← hspdInt, ← hdirInt, ← hnew, ← hnow]
  rfl

/-- An edge reads the capture registers, the time sample and CFG, and it writes capture registers only
(40_capture R102, R104, R105). -/
theorem effect_handler_withCaptureOf (line : EdgeLine) (lvl : Level) {s e : State} (hcfg : s.cfg = e.cfg) :
    effect (line.handler lvl) (s.withCaptureOf e) = s.withCaptureOf (effect (line.handler lvl) e) := by
  cases line with
  | speed =>
    change speedEdge lvl (s.withCaptureOf e) = s.withCaptureOf (speedEdge lvl e)
    rw [speedEdge, speedEdge, apply_ite s.withCaptureOf, ← hcfg]
    rfl
  | direction =>
    change dirEdge lvl (s.withCaptureOf e) = s.withCaptureOf (dirEdge lvl e)
    rw [dirEdge, dirEdge, apply_ite s.withCaptureOf, ← hcfg]
    rfl

/-- An edge at `te` puts the same values into the capture registers of every state that has the CFG and the capture
registers of `s`. -/
theorem perform_handler (line : EdgeLine) (lvl : Level) (te : Word) {s v : State} (hcfg : v.cfg = s.cfg)
    (hregs : v.captureRegs = s.captureRegs) :
    v.perform ⟨te, line.handler lvl⟩ = v.withCaptureOf (s.perform ⟨te, line.handler lvl⟩) := by
  have hself : State.withCaptureOf { v with nowPort := te } { s with nowPort := te } = { v with nowPort := te } :=
    State.withCaptureOf_eq_self hregs rfl
  change effect (line.handler lvl) { v with nowPort := te } = _
  rw [← hself]
  exact effect_handler_withCaptureOf line lvl hcfg

theorem perform_condition_withCaptureOf (s e : State) (t : Word) :
    (s.withCaptureOf e).perform ⟨t, .condition⟩ =
      (s.perform ⟨t, .condition⟩).withCaptureOf { e with nowPort := t } :=
  conditionPass_withCaptureAndNow { s with nowPort := t } ..

theorem perform_emit_withCaptureOf (s e : State) (t : Word) :
    (s.withCaptureOf e).perform ⟨t, .emit⟩ = (s.perform ⟨t, .emit⟩).withCaptureOf { e with nowPort := t } := rfl

/-- CYCLE at `t` is its parts at `t`, the rate limit in the registers before it (46_cycle R202). -/
theorem perform_cycle (s : State) (t : Word) :
    s.perform ⟨t, .cycle⟩ =
      if (s.cfg.data.emitPeriod.toNat : Int) ≤ Spec.elapsedTime t s.lastEmit then
        ((s.perform ⟨t, .snapshot⟩).perform ⟨t, .condition⟩).perform ⟨t, .emit⟩
      else (s.perform ⟨t, .snapshot⟩).perform ⟨t, .condition⟩ := by
  have hcond : (s.perform ⟨t, .snapshot⟩).perform ⟨t, .condition⟩ = conditionPass (s.perform ⟨t, .snapshot⟩) :=
    perform_of_nowPort (effect_nowPort ..)
  have hemit := perform_of_nowPort (s := conditionPass (s.perform ⟨t, .snapshot⟩)) (o := ⟨t, .emit⟩)
    (by rw [conditionPass_nowPort]; exact effect_nowPort ..)
  simp only [le_elapsedTime_iff, hcond, hemit]
  exact cyclePass_eq { s with nowPort := t }

/-- An edge before CONDITION, or before CONDITION and EMIT, leaves what it leaves after them, but for the sample on
the `now` port. -/
theorem perform_handler_commutes (line : EdgeLine) (lvl : Level) (t te : Word) (s : State) :
    Spec.withoutNow ((s.perform ⟨te, line.handler lvl⟩).perform ⟨t, .condition⟩) =
        Spec.withoutNow ((s.perform ⟨t, .condition⟩).perform ⟨te, line.handler lvl⟩) ∧
      Spec.withoutNow (((s.perform ⟨te, line.handler lvl⟩).perform ⟨t, .condition⟩).perform ⟨t, .emit⟩) =
        Spec.withoutNow (((s.perform ⟨t, .condition⟩).perform ⟨t, .emit⟩).perform ⟨te, line.handler lvl⟩) := by
  have hcond := perform_handler line lvl te (s := s) (v := s.perform ⟨t, .condition⟩)
    (by simp [State.perform, effect]) (by simp [State.perform, effect, State.captureRegs])
  have hemit := perform_handler line lvl te (s := s) (v := (s.perform ⟨t, .condition⟩).perform ⟨t, .emit⟩)
    (by simp [State.perform, effect]) (by simp [State.perform, effect, State.captureRegs])
  rw [hcond, hemit, perform_handler line lvl te (v := s) rfl rfl, perform_condition_withCaptureOf,
    perform_emit_withCaptureOf]
  exact ⟨rfl, rfl⟩

/-- Settles O46: the runs perform their operations in order (`run_programInputs`), CYCLE is its parts
(`perform_cycle`), and the edge commutes with those after SNAPSHOT. -/
theorem cycleAtomicityLosesNoBehaviour : Obligations.CycleAtomicityLosesNoBehaviour := by
  intro s line lvl t te
  simp only [EdgeLine.present]
  have hwords : encode .snapshot = 0x03#8 ∧ encode .condition = 0x04#8 ∧ encode .emit = 0x05#8 ∧
      encode .cycle = 0x06#8 := by decide
  obtain ⟨hsnapshot, hcondition, hemit, hcycle⟩ := hwords
  have hatomic := run_programInputs (ops := [⟨t, .cycle⟩, ⟨te, line.handler lvl⟩]) (by cases line <;> rfl) s
  have hparts := run_programInputs (ops := [⟨t, .snapshot⟩, ⟨te, line.handler lvl⟩, ⟨t, .condition⟩])
    (by cases line <;> rfl) s
  have hpartsEmit := run_programInputs
    (ops := [⟨t, .snapshot⟩, ⟨te, line.handler lvl⟩, ⟨t, .condition⟩, ⟨t, .emit⟩]) (by cases line <;> rfl) s
  simp only [programInputs, List.map_cons, List.map_nil, List.length_cons, List.length_nil, Nat.reduceAdd,
    TimedOp.input, hsnapshot, hcondition, hemit, hcycle, List.foldl_cons, List.foldl_nil, perform_cycle]
    at hatomic hparts hpartsEmit
  obtain ⟨hcommutes, hcommutesEmit⟩ := perform_handler_commutes line lvl t te (s.perform ⟨t, .snapshot⟩)
  refine ⟨fun hdue => ⟨_, _, hpartsEmit, hatomic, ?_⟩, fun hnot => ⟨_, _, hparts, hatomic, ?_⟩⟩
  · rw [if_pos hdue]
    exact congrArg (State.withInputs []) hcommutesEmit
  · rw [if_neg (not_le.mpr hnot)]
    exact congrArg (State.withInputs []) hcommutes

end Sys2Proof.Machine
end

section
/-! The proofs of the exceptions family (60_exceptions): ill-formed words, simultaneous edges, and a step from every
state. -/

namespace Sys2Proof.Machine

/-! ### One step, by the host's next input -/

theorem step_nil {s : State} (h : s.inputs = []) : step s = .next s := by
  rw [step, h, State.hold_eq]

theorem step_rst {s : State} {rest : List HostInput} (h : s.inputs = .rst :: rest) :
    step s = .next (s.assertReset rest) := by
  rw [step, h]

theorem step_op {s : State} {w : Byte} {t : Word} {rest : List HostInput} (h : s.inputs = .op w t :: rest) :
    step s = .next (effect (decode w) (s.presentOp t rest)) := by
  rw [step, h]
  exact exec_eq_next _ _

/-- Settles O7: a step with nothing presented holds the state. -/
theorem nothingPresentedChangesNothing : Obligations.NothingPresentedChangesNothing := fun _ => step_nil

/-- Settles O10, by cases on the host's next input. -/
theorem everyStepAnswersANextState : Obligations.EveryStepAnswersANextState := by
  intro s
  cases hin : s.inputs with
  | nil => exact ⟨_, step_nil hin⟩
  | cons input rest =>
    cases input with
    | rst => exact ⟨_, step_rst hin⟩
    | op w t => exact ⟨_, step_op hin⟩

/-! ### Ill-formed words -/

/-- The operations have only the nine words of 30_encoding R78. -/
theorem encode_mem_of_isOperation {i : Instr} (hi : Spec.isOperation i = true) :
    encode i ∈ [0x00#8, 0x01#8, 0x09#8, 0x02#8, 0x0A#8, 0x03#8, 0x04#8, 0x05#8, 0x06#8] := by
  cases i with
  | spdEdge lvl => cases lvl <;> decide
  | dirEdge lvl => cases lvl <;> decide
  | reservedOp rsv lvl => cases hi
  | reservedBits rsv lvl opc => cases hi
  | _ => decide

/-- OPC is the remainder of the word by eight (30_encoding R70). -/
theorem encode_toNat_mod_eight (i : Instr) : (encode i).toNat % 8 = i.opcBits.toNat := by
  obtain ⟨-, -, hopc⟩ := Laws.fields_opWord i.rsvBits i.level i.opcBits
  exact (opcField_eq_iff _ _).mp hopc

/-- An ill-formed word's effect is the fault, with the reason its OPC decides (60_exceptions R220, R221). -/
theorem effect_of_not_isOperation {i : Instr} (hwf : i.wf = true) (hi : Spec.isOperation i ≠ true) (s : State) :
    effect i s = s.raiseFault (if (encode i).toNat % 8 = 7 then .reservedOp else .reservedBits) := by
  rw [encode_toNat_mod_eight]
  cases i with
  | reservedOp rsv lvl => rfl
  | reservedBits rsv lvl opc =>
    have hopc : opc.toNat ≠ 7 := by
      rintro h7
      obtain rfl : opc = 0b111#3 := BitVec.eq_of_toNat_eq h7
      cases hwf
    exact congrArg s.raiseFault (if_neg hopc).symm
  | _ => exact absurd rfl hi

/-- Settles O48: a word other than the nine decodes to no operation, since it is the word of what it decodes to, and
what is left raises the fault (`effect_of_not_isOperation`). -/
theorem illFormedWordsRaiseTheFault : Obligations.IllFormedWordsRaiseTheFault := by
  refine ⟨fun s rsv lvl => rfl, fun s rsv lvl opc => rfl, fun s w t rest hin hw => ?_⟩
  obtain ⟨hwf, hencode⟩ := encodeOfDecodeIsTheWord w
  have hreserved : Spec.isOperation (decode w) ≠ true := fun hop =>
    hw (hencode ▸ encode_mem_of_isOperation hop)
  rw [step_op hin, effect_of_not_isOperation hwf hreserved, hencode]
  rfl

/-! ### Accepted edges in the same microsecond -/

/-- An accepted speed edge in a run (40_capture R102). -/
theorem perform_spdEdge_of_accepted {s : State} {t : Word}
    (h : (s.cfg.data.debounce.toNat : Int) ≤ Spec.elapsedTime t s.spdTs) :
    s.perform ⟨t, .spdEdge .lo⟩ =
      (s.presentOp t s.inputs).captureSpeed (elapsed t s.spdTs) (refreshedDirInt s) t := by
  obtain ⟨hignored, -⟩ | ⟨-, heq⟩ := speedEdge_cases .lo (s.presentOp t s.inputs)
  · exact absurd ⟨rfl, (le_elapsedTime_iff ..).mp h⟩ hignored
  · exact heq

/-- An accepted direction edge in a run (40_capture R104). -/
theorem perform_dirEdge_of_accepted {s : State} {t : Word}
    (h : (s.cfg.data.debounce.toNat : Int) ≤ Spec.elapsedTime t s.dirTs) :
    s.perform ⟨t, .dirEdge .lo⟩ = (s.presentOp t s.inputs).captureDir t := by
  obtain ⟨hignored, -⟩ | ⟨-, heq⟩ := dirEdge_cases .lo (s.presentOp t s.inputs)
  · exact absurd ⟨rfl, (le_elapsedTime_iff ..).mp h⟩ hignored
  · exact heq

/-- A direction timestamp not older than the last speed edge refreshes the interval (40_capture R102). -/
theorem refreshedDirInt_of_le {s : State} (h : s.spdTs ≤ s.dirTs) : refreshedDirInt s = s.dirTs - s.spdTs := if_pos h

/-- With both timestamps the same, an accepted speed edge measures no direction interval (40_capture R102). -/
theorem perform_spdEdge_of_timestamps_eq {s : State} {t : Word} (hts : s.dirTs = s.spdTs)
    (h : (s.cfg.data.debounce.toNat : Int) ≤ Spec.elapsedTime t s.spdTs) :
    s.perform ⟨t, .spdEdge .lo⟩ = (s.presentOp t s.inputs).captureSpeed (elapsed t s.spdTs) 0#32 t := by
  rw [perform_spdEdge_of_accepted h, refreshedDirInt_of_le (BitVec.le_of_eq hts.symm), hts, BitVec.sub_self]

/-- With the direction edge first, the speed edge at the same time measures the whole rotation twice
(60_exceptions R224). -/
theorem perform_dirEdge_spdEdge {s : State} {t : Word} (hle : s.spdTs.toNat ≤ t.toNat)
    (hspd : (s.cfg.data.debounce.toNat : Int) ≤ Spec.elapsedTime t s.spdTs)
    (hdir : (s.cfg.data.debounce.toNat : Int) ≤ Spec.elapsedTime t s.dirTs) :
    (s.perform ⟨t, .dirEdge .lo⟩).perform ⟨t, .spdEdge .lo⟩ =
      ((s.presentOp t s.inputs).captureDir t).captureSpeed (t - s.spdTs) (t - s.spdTs) t := by
  rw [perform_dirEdge_of_accepted hdir, perform_spdEdge_of_accepted, refreshedDirInt_of_le]
  · rfl
  · exact hle
  · exact hspd

/-- With the speed edge first, both timestamps are the same for the next speed edge (60_exceptions R224). -/
theorem perform_spdEdge_dirEdge_spdEdge {s : State} {t t' : Word}
    (hspd : (s.cfg.data.debounce.toNat : Int) ≤ Spec.elapsedTime t s.spdTs)
    (hdir : (s.cfg.data.debounce.toNat : Int) ≤ Spec.elapsedTime t s.dirTs)
    (hnext : (s.cfg.data.debounce.toNat : Int) ≤ Spec.elapsedTime t' t) :
    ((s.perform ⟨t, .spdEdge .lo⟩).perform ⟨t, .dirEdge .lo⟩).perform ⟨t', .spdEdge .lo⟩ =
      ((s.presentOp t' s.inputs).captureDir t).captureSpeed (t' - t) 0#32 t' := by
  rw [perform_spdEdge_of_accepted hspd, perform_dirEdge_of_accepted, perform_spdEdge_of_timestamps_eq]
  · rfl
  · rfl
  · exact hnext
  · exact hdir

/-- Settles O19: each run performs its edges in order (`run_programInputs`), with the intervals above. -/
theorem simultaneousEdgesInBothOrders : Obligations.SimultaneousEdgesInBothOrders := by
  intro s t t' hle hspd hdir hnext
  obtain ⟨hspdWord, hdirWord⟩ := encode_edges_lo
  have hdirFirst := run_programInputs (ops := [⟨t, .dirEdge .lo⟩, ⟨t, .spdEdge .lo⟩]) rfl s
  have hspdFirst := run_programInputs (ops := [⟨t, .spdEdge .lo⟩, ⟨t, .dirEdge .lo⟩, ⟨t', .spdEdge .lo⟩]) rfl s
  simp only [programInputs, List.map_cons, List.map_nil, List.length_cons, List.length_nil, Nat.reduceAdd,
    TimedOp.input, hspdWord, hdirWord, List.foldl_cons, List.foldl_nil, perform_dirEdge_spdEdge hle hspd hdir,
    perform_spdEdge_dirEdge_spdEdge hspd hdir hnext] at hdirFirst hspdFirst
  exact ⟨⟨_, hdirFirst, BitVec.toNat_sub_of_le hle, rfl⟩, ⟨_, hspdFirst, rfl, rfl⟩⟩

end Sys2Proof.Machine
end

section
/-! The proofs of the reset family (70_reset_and_hazards): what `rst` writes, and the first operations after it. -/

namespace Sys2Proof.Machine

/-! ### The reset state -/

/-- Settles O8: the step asserts reset (`step_rst`). -/
theorem resetSetsEveryRegister : Obligations.ResetSetsEveryRegister := fun _ _ => step_rst

/-- Settles O13: asserting reset meets the invariant from every state, so also from the reset state, which it
leaves as it is. -/
theorem resetMeetsTheInvariant : Obligations.ResetMeetsTheInvariant := .assertReset State.reset []

/-! ### The first operations after reset -/

/-- STATUS reads zero when every flag it shows is clear (10_state R40). -/
theorem status_of_flags_clear {s : State} (hfault : s.fault = false) (hstall : s.stall = false)
    (hdirStat : s.dirStat = .notReached) (hspeedRej : s.speedRej = false) (hnewData : s.newData = false) :
    s.status = 0x00#8 := by
  rw [State.status, hfault, hstall, hdirStat, hspeedRej, hnewData]
  decide

/-- The sentence of direction 0 and speed 0, with its checksum (70_reset_and_hazards R251). -/
theorem sentence_zero_zero :
    sentence 0 0 = Spec.text ['$', 'W', 'I', 'M', 'W', 'V', ',', '0', '.', '0', ',', 'R', ',', '0', '.', '0', ',',
      'N', ',', 'A', '*', '2', '3'] := by decide

/-- Before the first accepted speed edge the snapshot interval is zero at every time: the copy is zero, and so is
what a timeout puts in its place (41_snapshot R121). -/
theorem takeSnapshot_sSpdInt_of_spdInt_zero {s : State} (h : s.spdInt = 0#32) : (takeSnapshot s).sSpdInt = 0#32 := by
  rw [takeSnapshot_sSpdInt, h, ite_self]

/-- Settles O9: EMIT appends the sentence of two zeros to an empty OUT, and the first snapshot is stalled, so the pass
over it is `conditionPass_of_stalled`. -/
theorem firstOperationsAfterReset : Obligations.FirstOperationsAfterReset := by
  intro c t u r
  have hstalled : (takeSnapshot r).sSpdInt = 0#32 := takeSnapshot_sSpdInt_of_spdInt_zero rfl
  have hstall : (takeSnapshot r).stall = true := by rw [takeSnapshot_stall, hstalled]; rfl
  have hpass := conditionPass_of_stalled (s := { takeSnapshot r with nowPort := u }) hstalled
  refine ⟨status_of_flags_clear rfl rfl rfl rfl rfl, rfl, rfl, ⟨_, exec_eq_next .emit r, sentence_zero_zero⟩,
    _, _, exec_eq_next .snapshot r, hstalled, hstall, exec_eq_next .condition _, ?_⟩
  simp only [effect, hpass]
  exact ⟨speedWord_zero, rfl, rfl⟩

end Sys2Proof.Machine
end
